-- ==== Sys2Proof/Word.lean ====
section
/-! DEFINITION. The word types of the block (spec 00_scope.md R10): an 8-bit byte, a 16-bit word,
the 24-bit command word. Every value is unsigned; nothing in this hardware is signed. -/

namespace Sys2Proof

/-- A byte: 8 bits, unsigned (R10). -/
abbrev Byte := BitVec 8

/-- A word: 16 bits, unsigned (R10). -/
abbrev Word := BitVec 16

/-- The command word `CMD`: 24 bits (R26, R71). -/
abbrev CommandWord := BitVec 24

end Sys2Proof
end

