-- ==== Sys2Proof/Syntax.lean ====
section
/-! DEFINITION. The instructions: one constructor for each of the 14 rows of spec/opcode_table.json,
ten commands (30_encoding.md R70 to R72) and four wire frames (R76 to R79, R92), and the three forms
in which they reach the block. -/

namespace Sys2Proof

/-- One constructor per row of the opcode table. A command carries both fields of its word that lie
outside the row's mask, `STATE` (bit 16) and `CHAN` (bits 15:0), also where R71 says the command
ignores them: `CMD` latches the whole word (R26). A frame carries the lettered bytes of R92. -/
inductive Instr where
  /-- `CRC16 data`, OP 0x0 (R101). -/
  | crc16 (st : Bool) (ch : Word)
  /-- `TRANSMIT`, OP 0x1 (R121). -/
  | transmit (st : Bool) (ch : Word)
  /-- `RECEIVE tmo`, OP 0x2 (R140). -/
  | receive (st : Bool) (ch : Word)
  /-- `EXCHANGE tmo`, OP 0x3 (R150). -/
  | exchange (st : Bool) (ch : Word)
  /-- `BUILD_WC channel, state`, OP 0x4 (R160). -/
  | buildWc (st : Bool) (ch : Word)
  /-- `BUILD_RC`, OP 0x5 (R166). -/
  | buildRc (st : Bool) (ch : Word)
  /-- `VALIDATE_WC`, OP 0x6 (R172). -/
  | validateWc (st : Bool) (ch : Word)
  /-- `PARSE_RC`, OP 0x7 (R178). -/
  | parseRc (st : Bool) (ch : Word)
  /-- `WRITE_COIL channel, state`, OP 0x8 (R191). -/
  | writeCoil (st : Bool) (ch : Word)
  /-- `READ_COILS`, OP 0x9 (R200). -/
  | readCoils (st : Bool) (ch : Word)
  /-- The write-coil request frame `a 05 h l v 00 c d` (R76). -/
  | frameWriteCoilRequest (a h l v c d : Byte)
  /-- The read-coils request frame `a 01 00 00 00 08 c d` (R77). -/
  | frameReadCoilsRequest (a c d : Byte)
  /-- The write-coil response frame `a 05 h l v 00 c d`, an echo of the request (R78). -/
  | frameWriteCoilResponse (a h l v c d : Byte)
  /-- The read-coils response frame `a 01 01 m c d` (R79). -/
  | frameReadCoilsResponse (a m c d : Byte)
  deriving DecidableEq, Repr

/-- What the decoder reads, with the side it comes from: a 24-bit word on the command port (R71), the
bytes of a frame the host hands over as the `REQ` operand (R74 (b)), the bytes of a frame the line
delivers (R66 (a)). The side is needed: a write-coil request and its response are the same bits (R78). -/
inductive Fetched where
  | command (w : CommandWord)
  | request (bytes : List Byte)
  | response (bytes : List Byte)
  deriving DecidableEq, Repr

end Sys2Proof
end

