-- ==== Sys2Proof/WellFormed.lean ====
section
/-! DEFINITION. Which instructions have an encoding. The fields are bit vectors of the encoding's own
widths, so the one check left is the value byte of a write frame: `v`, "the high value byte (all ones
or all zeros)" (30_encoding.md R92, R76). The CRC bytes of a frame are fields like any other here: that
they match the body is R75's notion of a well-formed frame, `Machine.frameCrcOk`. -/

namespace Sys2Proof

/-- The value byte of a write frame: 0xFF for ON or 0x00 for OFF (R76, R92). -/
def valueByteOk (v : Byte) : Bool := v == 0xFF#8 || v == 0x00#8

/-- The instruction has an encoding. -/
def Instr.wellFormed : Instr → Bool
  | .crc16 _ _ => true
  | .transmit _ _ => true
  | .receive _ _ => true
  | .exchange _ _ => true
  | .buildWc _ _ => true
  | .buildRc _ _ => true
  | .validateWc _ _ => true
  | .parseRc _ _ => true
  | .writeCoil _ _ => true
  | .readCoils _ _ => true
  | .frameWriteCoilRequest _ _ _ v _ _ => valueByteOk v
  | .frameReadCoilsRequest _ _ _ => true
  | .frameWriteCoilResponse _ _ _ v _ _ => valueByteOk v
  | .frameReadCoilsResponse _ _ _ _ => true

end Sys2Proof
end

