-- ==== Sys2Proof/Decode.lean ====
section
/-! DEFINITION. Decoding, total on any command word and any byte sequence and rejecting by name, then
the encoder, written from the same tables: the command word of 30_encoding.md R71 and R72, the frames
of R76 to R79. -/

namespace Sys2Proof

/-- Why the decoder rejects. -/
inductive Reject where
  /-- `OP` is 0xA to 0xF (R73). -/
  | reservedOp
  /-- One of bits 19:17 of the command word is set (R73). -/
  | reservedBits
  /-- The bytes are no request frame of R76 or R77. -/
  | notARequestFrame
  /-- The bytes are no response frame of R78 or R79. -/
  | notAResponseFrame
  deriving DecidableEq, Repr

/-- `OP`, bits 23:20 of the command word (R71). -/
def opField (w : CommandWord) : BitVec 4 := w.extractLsb' 20 4

/-- Bits 19:17 of the command word, which must be 0 (R71). -/
def reservedField (w : CommandWord) : BitVec 3 := w.extractLsb' 17 3

/-- `STATE`, bit 16 of the command word: 1 is ON (R71). -/
def stateField (w : CommandWord) : Bool := w.getLsbD 16

/-- `CHAN`, bits 15:0 of the command word (R71). -/
def chanField (w : CommandWord) : Word := w.extractLsb' 0 16

/-- Decoding a command word (R71 to R73). -/
def decodeCommand (w : CommandWord) : Except Reject Instr :=
  if reservedField w ≠ 0#3 then .error .reservedBits
  else match (opField w).toNat with
    | 0 => .ok (.crc16 (stateField w) (chanField w))
    | 1 => .ok (.transmit (stateField w) (chanField w))
    | 2 => .ok (.receive (stateField w) (chanField w))
    | 3 => .ok (.exchange (stateField w) (chanField w))
    | 4 => .ok (.buildWc (stateField w) (chanField w))
    | 5 => .ok (.buildRc (stateField w) (chanField w))
    | 6 => .ok (.validateWc (stateField w) (chanField w))
    | 7 => .ok (.parseRc (stateField w) (chanField w))
    | 8 => .ok (.writeCoil (stateField w) (chanField w))
    | 9 => .ok (.readCoils (stateField w) (chanField w))
    | _ => .error .reservedOp

/-- Decoding the bytes of a request frame (R76, R77): byte 1 tells the two formats apart (R92). -/
def decodeRequest (bytes : List Byte) : Except Reject Instr :=
  match bytes with
  | [a, f, h, l, v, w, c, d] =>
    if f = 0x05#8 ∧ w = 0x00#8 ∧ valueByteOk v then .ok (.frameWriteCoilRequest a h l v c d)
    else if f = 0x01#8 ∧ h = 0x00#8 ∧ l = 0x00#8 ∧ v = 0x00#8 ∧ w = 0x08#8 then
      .ok (.frameReadCoilsRequest a c d)
    else .error .notARequestFrame
  | _ => .error .notARequestFrame

/-- Decoding the bytes of a well-formed response frame (R78, R79). -/
def decodeResponse (bytes : List Byte) : Except Reject Instr :=
  match bytes with
  | [a, f, h, l, v, w, c, d] =>
    if f = 0x05#8 ∧ w = 0x00#8 ∧ valueByteOk v then .ok (.frameWriteCoilResponse a h l v c d)
    else .error .notAResponseFrame
  | [a, f, n, m, c, d] =>
    if f = 0x01#8 ∧ n = 0x01#8 then .ok (.frameReadCoilsResponse a m c d)
    else .error .notAResponseFrame
  | _ => .error .notAResponseFrame

/-- The decoder: what was fetched, and from which side. -/
def decode : Fetched → Except Reject Instr
  | .command w => decodeCommand w
  | .request bytes => decodeRequest bytes
  | .response bytes => decodeResponse bytes

/-- The command word with the given `OP`, the reserved bits 0, `STATE` and `CHAN` (R71). -/
def commandWord (op : BitVec 4) (st : Bool) (ch : Word) : CommandWord :=
  op ++ 0#3 ++ BitVec.ofBool st ++ ch

/-- The encoder (R72, R76 to R79). -/
def encode : Instr → Fetched
  | .crc16 st ch => .command (commandWord 0x0#4 st ch)
  | .transmit st ch => .command (commandWord 0x1#4 st ch)
  | .receive st ch => .command (commandWord 0x2#4 st ch)
  | .exchange st ch => .command (commandWord 0x3#4 st ch)
  | .buildWc st ch => .command (commandWord 0x4#4 st ch)
  | .buildRc st ch => .command (commandWord 0x5#4 st ch)
  | .validateWc st ch => .command (commandWord 0x6#4 st ch)
  | .parseRc st ch => .command (commandWord 0x7#4 st ch)
  | .writeCoil st ch => .command (commandWord 0x8#4 st ch)
  | .readCoils st ch => .command (commandWord 0x9#4 st ch)
  | .frameWriteCoilRequest a h l v c d => .request [a, 0x05#8, h, l, v, 0x00#8, c, d]
  | .frameReadCoilsRequest a c d => .request [a, 0x01#8, 0x00#8, 0x00#8, 0x00#8, 0x08#8, c, d]
  | .frameWriteCoilResponse a h l v c d => .response [a, 0x05#8, h, l, v, 0x00#8, c, d]
  | .frameReadCoilsResponse a m c d => .response [a, 0x01#8, 0x01#8, m, c, d]

/-- The first `n` bytes of a number, the byte in bits 7:0 first. -/
def bytesOf (n w : Nat) : List Byte := (List.range n).map fun k => BitVec.ofNat 8 (w >>> (8 * k))

/-- What an opcode-table row of `nbits` bits stands for. A row of 24 bits is a command word; a row of
64 bits is a frame of 8 bytes handed over by the host, byte 0 in bits 7:0; any other row is a frame
the line delivers (the table has one such row, of 48 bits). The bits of
`FRAME_WRITE_COIL_RESPONSE` are those of `FRAME_WRITE_COIL_REQUEST` (R78), so a number alone cannot
tell the two apart and the request is read (DESIGN CHOICE, log entry 8). -/
def fetchedOfTableWord (nbits w : Nat) : Fetched :=
  if nbits ≤ 24 then .command (BitVec.ofNat 24 (w % 2 ^ nbits))
  else if nbits = 64 then .request (bytesOf 8 w)
  else .response (bytesOf (nbits / 8) w)

/-- The instruction the decoder reads from an opcode-table word. -/
def decodeTableWord (nbits w : Nat) : Option Instr :=
  match decode (fetchedOfTableWord nbits w) with
  | .ok i => some i
  | .error _ => none

end Sys2Proof
end

