-- ==== Sys2Proof/Config.lean ====
section
/-! DEFINITION. What an implementation fixes (spec 00_scope.md R8, 10_state.md R36): one record of
constants, and the one free value the spec leaves open after an instruction (RES8 after a failure).
The record is data that `State` carries and no step changes, so that a statement about every state is
a statement about every configuration (D8: "Claims should be proved for every admitted value"). -/

namespace Sys2Proof

/-- The implementation parameters of R8. The source gives a value for none of them. -/
structure Config where
  /-- `SLAVE_ADDR`: byte 0 of every request; 0 gets no special treatment (D36). -/
  slaveAddr : Byte
  /-- `RELAY_COUNT`: the channels are 1..N (R161). -/
  relayCount : Nat
  /-- `ATTEMPT_TIMEOUT`: first-byte timeout of every attempt of a transaction (R193). -/
  attemptTimeout : Nat
  /-- `MAX_RETRIES`: the total number of attempts, the first included (R193, C4). -/
  maxRetries : Nat
  /-- `RETRY_DELAY`: the delay between a failed attempt and the next (R196). -/
  retryDelay : Nat
  /-- `T_SETTLE`: the wait after asserting transmit-enable (R126). -/
  tSettle : Nat
  /-- `T_HOLD`: the hold of transmit-enable after the last bit (R130). -/
  tHold : Nat
  /-- `T_TXBUDGET`: the budget of the writes together, and again of the shift-complete wait (R132). -/
  tTxBudget : Nat
  /-- `T_IDLE`: the inter-byte idle time that ends a receive (R141). -/
  tIdle : Nat
  /-- `RX_CAP`: the capacity of `RSP` in bytes (R142). -/
  rxCap : Nat
  /-- `TX_CAP`: the capacity of `REQ` in bytes (R122). -/
  txCap : Nat
  /-- `TICK`: the length of one tick of `NOW`; no rule reads it (R44). -/
  tick : Nat
  /-- `DE_ACTIVE_LEVEL`: the pin level that means asserted; no rule reads it (R21, D9). -/
  deActiveLevel : Bool
  deriving DecidableEq, Repr

/-- The constraints of R8's table: outside them the spec gives no behaviour and asks a model to refuse
the configuration (R236 (c), U10). -/
def Config.ok (c : Config) : Bool :=
  decide (1 ≤ c.relayCount ∧ c.relayCount ≤ 65535) && decide (1 ≤ c.maxRetries) &&
  decide (0 < c.tSettle) && decide (0 < c.tHold) && decide (0 < c.tTxBudget) &&
  decide (0 < c.tIdle ∧ c.tIdle < c.attemptTimeout) && decide (8 ≤ c.rxCap) && decide (8 ≤ c.txCap)

/-- The example configuration at the head of 95_test_vectors.md. `State.reset` carries it
(DESIGN CHOICE, log entry 1): the spec's own examples use it and say so; no rule rests on it. That head gives
neither `TICK` nor `DE_ACTIVE_LEVEL`: the values 1 and true here are the model's (DESIGN CHOICE, log entry 28),
read by no definition, and no claim about the pin's polarity (91_not_in_source.md N12). -/
def Config.vectors : Config :=
  { slaveAddr := 0x01#8, relayCount := 8, attemptTimeout := 100, maxRetries := 3, retryDelay := 50,
    tSettle := 2, tHold := 2, tTxBudget := 50, tIdle := 5, rxCap := 16, txCap := 16, tick := 1,
    deActiveLevel := true }

/-- What `RES8` holds after a command that leaves it unspecified (a failed `PARSE_RC`, a `READ_COILS`
that ends `Timeout`: R25, R178, R201, U3): a free value, a fresh one for every value of the counter
`State.draws`. It has no body; nothing can be proved of what it is (log entry 4). -/
opaque Config.freeRes8 : Nat → Byte

end Sys2Proof
end

