-- ==== Sys2Proof/Machine/State.lean ====
section
/-! DEFINITION. What the machine is made of: every piece of state of spec 10_state.md, as plain data,
and beside it the model's own: the configuration record, what the host drives on its ports, the wire
trace of 20_memory.md R58, and the script of what the environment does next (R45, R66). -/

namespace Sys2Proof.Machine

/-- The status codes of 60_exceptions.md R210. Codes 0x8 to 0xF are never produced (U14). -/
inductive Status where
  | ok
  | invalidParameter
  | txError
  | rxTimeout
  | tooShort
  | crcMismatch
  | headerMismatch
  | timeout
  deriving DecidableEq, Repr

/-- The transmit and receive phases of R33. They are phases of `TRANSMIT`, `RECEIVE` and `EXCHANGE`, and
sub-phases of `ATTEMPTING(n)`. -/
inductive LinePhase where
  | txFlush
  | txAssert
  | txSettle
  /-- `TX_WRITE(i)`, for i from 0 to the length: the next byte to hand over is byte i. -/
  | txWrite (i : Nat)
  | txWaitTc
  | txHold
  | txRelease
  | rxWaitFirst
  | rxCollect
  deriving DecidableEq, Repr

/-- `PHASE` (R33). The attempt number n of `ATTEMPTING(n)` and `RETRYING(n)` is `ATT` (R190). -/
inductive Phase where
  | idle
  | transport (p : LinePhase)
  /-- `COMPUTE`: the CRC engine and the codec operations pass through it inside one step (R33, R185). -/
  | compute
  | building
  | attempting (p : LinePhase)
  | retrying
  | succeeded
  | exhausted
  deriving DecidableEq, Repr

/-- The six timers of R38 and R229, each a deadline; `none` when it is not running. -/
structure Timers where
  settle : Option Nat := none
  txBudget : Option Nat := none
  hold : Option Nat := none
  first : Option Nat := none
  idle : Option Nat := none
  retry : Option Nat := none
  deriving DecidableEq, Repr

/-- The events of the wire trace (R58). -/
inductive WireEvent where
  /-- `FLUSH(n)`: n bytes discarded from `RXQ`. -/
  | flush (n : Nat)
  | deUp
  /-- `TX(b)`: byte b has fully left the shift register. -/
  | tx (b : Byte)
  | deDown
  /-- `RX(b)`: byte b taken from `RXQ` into `RSP`. -/
  | rx (b : Byte)
  deriving DecidableEq, Repr

/-- The values the items of R46's table marked "unspecified" have after a reset. -/
structure ResetDraw where
  status : Status
  res16 : Word
  res8 : Byte
  cmd : CommandWord
  tmo : Nat
  req : List Byte
  rsp : List Byte
  crc : Word
  att : Nat
  rxq : List Byte
  deriving DecidableEq, Repr

/-- What the agents around and inside the block do, one move each (R7, R66, R268). -/
inductive Event where
  /-- The host presents a command word, with the timeout operand and the byte stream of `CRC16` beside
  it (R71, R74). -/
  | hostCommand (w : CommandWord) (tmo : Nat) (data : List Byte)
  /-- The host loads the byte-sequence operand `REQ` (R74 (b)). -/
  | hostRequest (bytes : List Byte)
  /-- The host loads the operand `RSP` (R74 (b)). -/
  | hostResponse (bytes : List Byte)
  /-- The platform asserts the reset; the draw is what the unspecified items hold after it (R240, R245). -/
  | reset (u : ResetDraw)
  /-- The line delivers bytes (R66 (a)). -/
  | line (bytes : List Byte)
  /-- The transmitter has room for a byte, or has none (R127). -/
  | uartRoom (r : Bool)
  /-- The head of `TXQ` moves into an empty shift register (R27). -/
  | uartLoad
  /-- The byte in the shift register has fully left it (R27, R66 (b)). -/
  | uartShift
  /-- `NOW` advances by n ticks (R66 (c)). -/
  | clock (n : Nat)
  /-- The sequencer of the block takes its next phase step, or polls what it waits for (R7 (2)). -/
  | sequencer
  /-- The same step of the sequencer, with the budget of `TX_WAIT_TC` looked at before its condition: where the last
  bit has left on the very tick the budget runs out, the timer wins (R221). -/
  | timerFirst
  deriving DecidableEq, Repr

/-- The machine. `req` is `REQ[0 .. REQ_LEN-1]` and `rsp` is `RSP[0 .. RSP_LEN-1]`: the length registers
are the lists' lengths, and bytes above them, which are unspecified and which no rule reads (R29, R30,
U4), are not held. -/
structure State where
  /-- The configuration constants (R8, R36). -/
  cfg : Config
  /-- `DE`, the direction line (R21): true is transmit mode. -/
  de : Bool
  /-- `BUSY` (R22). -/
  busy : Bool
  /-- `DONE` (R22). -/
  done : Bool
  /-- `STATUS` (R23). -/
  status : Status
  /-- `RES16` (R24). -/
  res16 : Word
  /-- `RES8` (R25). -/
  res8 : Byte
  /-- `CMD`, the latched command word (R26). -/
  cmd : CommandWord
  /-- `TMO`, the latched timeout operand (R26). -/
  tmo : Nat
  /-- `REQ` and `REQ_LEN` (R29). -/
  req : List Byte
  /-- `RSP` and `RSP_LEN` (R30). -/
  rsp : List Byte
  /-- `TXQ`: bytes handed over and not yet in the shift register, oldest first (R27). -/
  txq : List Byte
  /-- `TXSR`, the shift register (R27). -/
  txsr : Option Byte
  /-- The transmitter has room: the condition `uart_write` waits for (R127). -/
  txRoom : Bool
  /-- `RXQ`, the receive path, oldest first (R28). -/
  rxq : List Byte
  /-- `CRC`, the accumulator of the CRC engine (R31). -/
  crc : Word
  /-- `ATT`, the attempt number (R32). -/
  att : Nat
  /-- `PHASE` (R33). -/
  phase : Phase
  /-- The six timers (R38). -/
  timers : Timers
  /-- `NOW` (R44). -/
  now : Nat
  /-- `REQ` has been written since the reset: until then a read of it is refused (R46, R244, U1). -/
  reqWritten : Bool
  /-- `RSP` has been written since the reset: until then a read of it is refused (R46, R244, U1). -/
  rspWritten : Bool
  /-- A byte-sequence operand longer than `TX_CAP` that the host has presented. It is never copied into
  `REQ`; R122 decides on its length (C12 (b)). It stands until `REQ` is next written. -/
  reqOver : Option (List Byte)
  /-- What the host drives as the timeout operand beside a command word (R74 (a)). -/
  tmoIn : Nat
  /-- What the host streams as the operand of `CRC16` (R74 (c)); the block does not store it. -/
  dataIn : List Byte
  /-- The wire trace, oldest first, each event with the `NOW` at which it happened (R58). -/
  trace : List (WireEvent × Nat)
  /-- The model's own: how many free values have been drawn. -/
  draws : Nat
  /-- The model's own: what the environment and the sequencer do next, in this order. -/
  script : List Event
  deriving DecidableEq, Repr

/-- The machine never stops with a fault: every error of this hardware is a status value after which it
goes on (R236 (a)), and it has no stuck state of its own (R236 (b)). -/
inductive Fault where
  deriving DecidableEq, Repr

/-- Why a step gives no next state. -/
inductive Refusal where
  /-- Raised by no meaning: what an arm of `exec` would answer for an instruction without one. Safe. -/
  | notModelled (mnemonic : String)
  /-- Raised when a command is accepted, or a request frame loaded, under a configuration outside R8's
  constraints: the spec asks a model to refuse it (R236 (c), U10). Safe. -/
  | configurationOutOfRange
  /-- Raised when the host writes `REQ` or `RSP` while `BUSY = 1`: "the spec gives no meaning to a
  command whose operands change under it" (R264, U12). Safe. -/
  | operandsChangedWhileBusy
  /-- Raised when the host loads `RSP` with more than `RX_CAP` bytes: `RSP_LEN` is at most `RX_CAP`
  (R30) and no rule says what a longer load does. Safe. -/
  | responseExceedsBuffer
  deriving DecidableEq, Repr

/-- The state after reset under a configuration: the table of R46, with the unspecified items drawn.
`REQ_LEN` and `RSP_LEN` are within their capacities whatever is drawn (R29, R30). -/
def State.resetTo (c : Config) (u : ResetDraw) : State :=
  { cfg := c, de := false, busy := false, done := false, status := u.status, res16 := u.res16,
    res8 := u.res8, cmd := u.cmd, tmo := u.tmo, req := u.req.take c.txCap, rsp := u.rsp.take c.rxCap,
    txq := [], txsr := none, txRoom := true, rxq := u.rxq, crc := u.crc, att := u.att, phase := .idle,
    timers := {}, now := 0, reqWritten := false, rspWritten := false, reqOver := none, tmoIn := 0,
    dataIn := [], trace := [], draws := 0, script := [] }

/-- The values the model names for the items the spec gives no reset value (DESIGN CHOICE, log entry 2):
zero and empty throughout. -/
def ResetDraw.zero : ResetDraw :=
  { status := .ok, res16 := 0#16, res8 := 0#8, cmd := 0#24, tmo := 0, req := [], rsp := [],
    crc := 0#16, att := 0, rxq := [] }

/-- The machine right after reset (R46, R240). -/
def State.reset : State := State.resetTo Config.vectors ResetDraw.zero

end Sys2Proof.Machine
end

