-- ==== Sys2Proof/Machine/Operands.lean ====
section
/-! DEFINITION. Operands: the halves of a word (00_scope.md R10), a byte of a buffer (R12), the operand
byte sequences (30_encoding.md R74), and the fields of the request frames (R80 to R82). -/

namespace Sys2Proof.Machine

/-- `lo8(w) = w[7:0]` (R10). -/
def lo8 (w : Word) : Byte := w.extractLsb' 0 8

/-- `hi8(w) = w[15:8]` (R10). -/
def hi8 (w : Word) : Byte := w.extractLsb' 8 8

/-- `s[i]`, the byte at offset i (R11). No rule reads at or above the length (R51). -/
def byteAt (bytes : List Byte) (i : Nat) : Byte := bytes.getD i 0#8

/-- The byte sequence that stands as the `REQ` operand: an over-long one the host has presented, else
the contents of `REQ` (R74 (b), C12 (b)). -/
def requestOperand (s : State) : List Byte := s.reqOver.getD s.req

/-- `READ_START`, fixed 0 (R8). -/
def readStart : Word := 0#16

/-- `READ_COUNT`, fixed 8 (R8). -/
def readCount : Word := 8#16

/-- The channel is in `[1, RELAY_COUNT]`, bounds included (R161). -/
def channelOk (c : Config) (ch : Word) : Bool := decide (1 ≤ ch.toNat ∧ ch.toNat ≤ c.relayCount)

/-- The coil address: `channel - 1`, computed on naturals after the range check (R80, R186). -/
def coilAddress (ch : Word) : Word := BitVec.ofNat 16 (ch.toNat - 1)

/-- The value field: 0xFF00 for ON, 0x0000 for OFF (R81). -/
def coilValue (st : Bool) : Word := if st then 0xFF00#16 else 0x0000#16

/-- The first-byte timeout of the receive in progress: `ATTEMPT_TIMEOUT` inside an attempt (R193), else
the latched `TMO` (R140). -/
def firstByteTimeout (s : State) : Nat :=
  match s.phase with
  | .attempting _ => s.cfg.attemptTimeout
  | _ => s.tmo

end Sys2Proof.Machine
end

