-- ==== Sys2Proof/Machine/Crc.lean ====
section
/-! DEFINITION. The CRC engine (40_crc_engine.md): the function `crc16` of R100, bit by bit, as the source
states it. -/

namespace Sys2Proof.Machine

/-- One round: the low bit is tested before the shift, the exclusive-or with 0xA001 is applied after it
(R103). -/
def crcRound (acc : Word) : Word := if acc.getLsbD 0 then (acc >>> 1) ^^^ 0xA001#16 else acc >>> 1

/-- `n` rounds. -/
def crcRounds : Nat → Word → Word
  | 0, acc => acc
  | n + 1, acc => crcRounds n (crcRound acc)

/-- The step of one byte: it is combined into the low byte of the accumulator, unreflected, and exactly 8
rounds follow (R102, R103). -/
def crcByte (acc : Word) (b : Byte) : Word := crcRounds 8 (acc ^^^ b.setWidth 16)

/-- The accumulator after the bytes, in sequence order, from a given one (R108 (a)). -/
def crcFrom (acc : Word) (data : List Byte) : Word := data.foldl crcByte acc

/-- `crc16(data)`: from 0xFFFF, with no final exclusive-or and no swap (R100, R104, R105). -/
def crc16 (data : List Byte) : Word := crcFrom 0xFFFF#16 data

end Sys2Proof.Machine
end

