-- ==== Sys2Proof/Machine/Flags.lean ====
section
/-! DEFINITION. The one-bit conditions (10_state.md R35: the block has no condition codes), the status
codes (60_exceptions.md R210), what the timers say, and what the host may read (R23 to R25, R237). -/

namespace Sys2Proof.Machine

/-- `uart_tc()`: the transmit queue and the shift register are both empty (R27, R128). -/
def uartTc (s : State) : Bool := s.txq.isEmpty && s.txsr.isNone

/-- `uart_avail()`: the receive path holds a byte (R28). -/
def uartAvail (s : State) : Bool := !s.rxq.isEmpty

/-- The 4-bit code of a status (R210). -/
def statusCode : Status → BitVec 4
  | .ok => 0x0#4
  | .invalidParameter => 0x1#4
  | .txError => 0x2#4
  | .rxTimeout => 0x3#4
  | .tooShort => 0x4#4
  | .crcMismatch => 0x5#4
  | .headerMismatch => 0x6#4
  | .timeout => 0x7#4

/-- The deadline has been reached: `NOW - t0 ≥ d` (R140). A timer that is not running never expires. -/
def expired (deadline : Option Nat) (now : Nat) : Bool :=
  match deadline with
  | some d => decide (d ≤ now)
  | none => false

/-- The deadline has been passed: more than the timer's length has gone by. On the very tick of the
deadline either outcome is still open (R146, R221). -/
def overdue (deadline : Option Nat) (now : Nat) : Bool :=
  match deadline with
  | some d => decide (d < now)
  | none => false

/-- The transport phase in progress, alone or inside an attempt. -/
def linePhase : Phase → Option LinePhase
  | .transport p => some p
  | .attempting p => some p
  | _ => none

/-- The phases in which the block drives the bus, `DE = 1` (R124 to R131). -/
def LinePhase.drives : LinePhase → Bool
  | .txSettle => true
  | .txWrite _ => true
  | .txWaitTc => true
  | .txHold => true
  | .txRelease => true
  | .txFlush => false
  | .txAssert => false
  | .rxWaitFirst => false
  | .rxCollect => false

/-- `DE` as the phase in progress has it. -/
def Phase.drives (p : Phase) : Bool := (linePhase p).any LinePhase.drives

/-- The command in progress goes on to receive after it has transmitted: `EXCHANGE`, or the `EXCHANGE`
of an attempt (R150, R153). -/
def exchanging (s : State) : Bool :=
  match s.phase with
  | .attempting _ => true
  | _ => opField s.cmd == 0x3#4

/-- The transaction in progress is `READ_COILS` (R200); else it is `WRITE_COIL`. -/
def reading (s : State) : Bool := opField s.cmd == 0x9#4

/-- What the host reads as `STATUS`: valid only while `DONE = 1` (R23). `none` is the refusal R46 asks
for; the register itself holds a value. -/
def readStatus (s : State) : Option (BitVec 4) := if s.done then some (statusCode s.status) else none

/-- What the host reads as `RES16`: valid only while `DONE = 1` and the last command was `CRC16` with
`STATUS = OK` (R24). -/
def readRes16 (s : State) : Option Word :=
  if s.done && s.status == .ok && opField s.cmd == 0x0#4 then some s.res16 else none

/-- What the host reads as `RES8`: valid only while `DONE = 1` and the last command was `PARSE_RC` or
`READ_COILS` with `STATUS = OK` (R25). -/
def readRes8 (s : State) : Option Byte :=
  if s.done && s.status == .ok && (opField s.cmd == 0x7#4 || opField s.cmd == 0x9#4) then some s.res8
  else none

/-- What the host reads at offset i of `REQ`: a byte below `REQ_LEN`, once `REQ` has been written since the reset
(R29, R46, R244, U1, U4). -/
def readReq (s : State) (i : Nat) : Option Byte := if s.reqWritten then s.req[i]? else none

/-- What the host reads at offset i of `RSP`: a byte below `RSP_LEN`, once `RSP` has been written since the reset
(R30, R46, R244, U1, U4). -/
def readRsp (s : State) (i : Nat) : Option Byte := if s.rspWritten then s.rsp[i]? else none

end Sys2Proof.Machine
end

