-- ==== Sys2Proof/Machine/Ops.lean ====
section
/-! DEFINITION. The named operations on the state: acceptance of a command (10_state.md R22, R26), the
exit actions that every operation ends with and that an error takes (60_exceptions.md R222), the direction
line, the six primitives of the UART (00_scope.md R12), the host's operand loads (30_encoding.md R74), the
rejection of a reserved command (R73) and the reset (70_reset_and_hazards.md R240, R245). -/

namespace Sys2Proof.Machine

/-- The wire trace gains an event, with the present `NOW` (R58). -/
def record (e : WireEvent) (s : State) : State := { s with trace := s.trace ++ [(e, s.now)] }

/-- `DE <- 1`; the trace gains `DE_UP` (R124). -/
def raiseDe (s : State) : State := record .deUp { s with de := true }

/-- If `DE = 1`, `DE <- 0` and the trace gains `DE_DOWN` (R131, R222 (1)). -/
def lowerDe (s : State) : State := if s.de then record .deDown { s with de := false } else s

/-- Acceptance of a command: `CMD` and `TMO` are latched, `BUSY <- 1`, `DONE <- 0` (R22, R26). No timer
runs before its phase starts it (R38). -/
def accept (w : CommandWord) (s : State) : State :=
  { s with cmd := w, tmo := s.tmoIn, busy := true, done := false, timers := {} }

/-- The exit actions, the same for every error kind and for `OK` (R222): receive mode, the code into
`STATUS`, `PHASE <- IDLE`, `BUSY <- 0`, `DONE <- 1`. This is what `raise` and `return` of the spec's
pseudocode do; nothing is saved and control goes nowhere else. -/
def finish (st : Status) (s : State) : State :=
  let t := lowerDe s
  { t with status := st, phase := .idle, busy := false, done := true, timers := {} }

/-- A transport phase begins, alone or inside the attempt in progress (R33). -/
def enter (p : LinePhase) (s : State) : State :=
  { s with phase := match s.phase with
                    | .attempting _ => .attempting p
                    | _ => .transport p }

/-- `REQ <- bytes`, `REQ_LEN <- len(bytes)`. -/
def writeReq (bytes : List Byte) (s : State) : State :=
  { s with req := bytes, reqWritten := true, reqOver := none }

/-- `RSP <- bytes`, `RSP_LEN <- len(bytes)`. -/
def writeRsp (bytes : List Byte) (s : State) : State := { s with rsp := bytes, rspWritten := true }

/-- `uart_flush()`: `RXQ` becomes empty and the trace gains `FLUSH(k)`, k the number discarded (R123). -/
def uartFlush (s : State) : State := record (.flush s.rxq.length) { s with rxq := [] }

/-- `uart_write(b)`: the byte joins the transmit queue (R27, R127). -/
def uartWrite (b : Byte) (s : State) : State := { s with txq := s.txq ++ [b] }

/-- A byte that `uart_read()` has taken off `RXQ`, leaving `rest`, is stored at the next offset of `RSP`;
the trace gains `RX(b)` (R141). -/
def storeReceived (b : Byte) (rest : List Byte) (s : State) : State :=
  record (.rx b) { writeRsp (s.rsp ++ [b]) s with rxq := rest }

/-- The head of `TXQ` moves into the shift register when that is empty (R27). -/
def uartLoad (s : State) : State :=
  match s.txq, s.txsr with
  | b :: rest, none => { s with txq := rest, txsr := some b }
  | _, _ => s

/-- The byte in the shift register has fully left it: the trace gains `TX(b)` (R27, R127). The hold timer
is started at the last `TX` event (R229), so each one starts it afresh. -/
def uartShift (s : State) : State :=
  match s.txsr with
  | some b =>
    record (.tx b)
      { s with txsr := none, timers := { s.timers with hold := some (s.now + s.cfg.tHold) } }
  | none => s

/-- The line delivers bytes: they join `RXQ` while `DE = 0`; nothing is appended while `DE = 1` (R28,
R66 (a), R135). -/
def deliver (bytes : List Byte) (s : State) : State :=
  if s.de then s else { s with rxq := s.rxq ++ bytes }

/-- The host loads `REQ` (R74 (b)). A sequence longer than `TX_CAP` is not copied: it stands as the
operand the next command's length check meets (R122, C12 (b)). Not while `BUSY = 1` (R264). -/
def loadRequest (bytes : List Byte) (s : State) : Host.Outcome State Fault Refusal :=
  if s.busy then .refused .operandsChangedWhileBusy
  else if s.cfg.ok then
    .next (if bytes.length ≤ s.cfg.txCap then writeReq bytes s else { s with reqOver := some bytes })
  else .refused .configurationOutOfRange

/-- The host loads `RSP` (R74 (b)). Not while `BUSY = 1` (R264). -/
def loadResponse (bytes : List Byte) (s : State) : Host.Outcome State Fault Refusal :=
  if s.busy then .refused .operandsChangedWhileBusy
  else if bytes.length ≤ s.cfg.rxCap then .next (writeRsp bytes s)
  else .refused .responseExceedsBuffer

/-- A reserved command presented in `IDLE` ends at once: `STATUS = InvalidParameter`, `DONE = 1`, and
nothing else changes (R73). -/
def rejectCommand (s : State) : State := { s with status := .invalidParameter, done := true }

/-- The reset, at any time (R240, R245): the table of R46 with the unspecified items as drawn, `DE` at 0
at once, the transmitter emptied. `NOW` is never reset (R44); the configuration has one value for the life
of the block (R36); whether the transmitter has room, what the host drives and the script are the
environment's; the trace is the model's record and gains `DE_DOWN` where `DE` falls. -/
def resetBlock (u : ResetDraw) (s : State) : State :=
  { State.resetTo s.cfg u with
    now := s.now, txRoom := s.txRoom, tmoIn := s.tmoIn, dataIn := s.dataIn,
    trace := (lowerDe s).trace, draws := s.draws, script := s.script }

end Sys2Proof.Machine
end

