-- ==== Sys2Proof/Machine/Frames.lean ====
section
/-! DEFINITION. Frames (30_encoding.md R75 to R83) and what the two builders and the two checkers of the
codec compute (42_frame_codec.md R160 to R186), as functions of byte sequences; then the meaning of the four
frame rows of the opcode table. -/

namespace Sys2Proof.Machine

/-- A body with its CRC, low byte first (R52, R83). -/
def withCrc (body : List Byte) : List Byte := body ++ [lo8 (crc16 body), hi8 (crc16 body)]

/-- A frame is well-formed only if its trailing two bytes equal the CRC of the bytes before them (R75). -/
def frameCrcOk (f : List Byte) : Bool :=
  decide (4 ≤ f.length) && f == withCrc (f.take (f.length - 2))

/-- The first six bytes of a write-coil request (R76, R80, R81). -/
def writeCoilBody (c : Config) (st : Bool) (ch : Word) : List Byte :=
  [c.slaveAddr, 0x05#8, hi8 (coilAddress ch), lo8 (coilAddress ch), hi8 (coilValue st),
   lo8 (coilValue st)]

/-- The first six bytes of the read-coils request (R77, R82). -/
def readCoilsBody (c : Config) : List Byte :=
  [c.slaveAddr, 0x01#8, hi8 readStart, lo8 readStart, hi8 readCount, lo8 readCount]

/-- What a checker concludes: the status, and the CRC it computed if it came that far. -/
structure Verdict where
  status : Status
  crc : Option Word
  deriving DecidableEq, Repr

/-- The checks of `VALIDATE_WC`, in this order, the first that fails reported (R172 to R177, R184,
R220). -/
def validateWriteCoil (request rsp : List Byte) : Verdict :=
  if request.length ≠ 8 then { status := .invalidParameter, crc := none }
  else if rsp.length < 8 then { status := .tooShort, crc := none }
  else
    let c := crc16 (rsp.take 6)
    if byteAt rsp 6 ≠ lo8 c ∨ byteAt rsp 7 ≠ hi8 c then { status := .crcMismatch, crc := some c }
    else if byteAt rsp 0 ≠ byteAt request 0 ∨ byteAt rsp 1 ≠ byteAt request 1 then
      { status := .headerMismatch, crc := some c }
    else if byteAt rsp 2 ≠ byteAt request 2 ∨ byteAt rsp 3 ≠ byteAt request 3 ∨
        byteAt rsp 4 ≠ byteAt request 4 ∨ byteAt rsp 5 ≠ byteAt request 5 then
      { status := .headerMismatch, crc := some c }
    else { status := .ok, crc := some c }

/-- The checks of `PARSE_RC`, in this order; the CRC bytes are the last two of the received length (R178
to R184, R220). -/
def parseReadCoils (request rsp : List Byte) : Verdict :=
  if request.length ≠ 8 then { status := .invalidParameter, crc := none }
  else if rsp.length < 5 then { status := .tooShort, crc := none }
  else
    let c := crc16 (rsp.take (rsp.length - 2))
    if byteAt rsp (rsp.length - 2) ≠ lo8 c ∨ byteAt rsp (rsp.length - 1) ≠ hi8 c then
      { status := .crcMismatch, crc := some c }
    else if byteAt rsp 0 ≠ byteAt request 0 ∨ byteAt rsp 1 ≠ byteAt request 1 then
      { status := .headerMismatch, crc := some c }
    else { status := .ok, crc := some c }

/-- The coil bitmask of an accepted read response: byte 3, unchanged (R182, R54). -/
def coilBitmask (rsp : List Byte) : Byte := byteAt rsp 3

/-- The accumulator is the one scratch register a checker writes, when it computes a CRC (R31, R107). -/
def noteCrc (v : Verdict) (s : State) : State := { s with crc := v.crc.getD s.crc }

/-- `RES8` is unspecified: a free value, and the next one will be another (R25, U3). -/
def scrambleRes8 (s : State) : State := { s with res8 := Config.freeRes8 s.draws, draws := s.draws + 1 }

/-- `REQ <- body ++ [lo8(c), hi8(c)]`, `c` left in the accumulator (R160, R166). -/
def buildRequest (body : List Byte) (s : State) : State :=
  { writeReq (withCrc body) s with crc := crc16 body }

/-- The write-coil request frame, as the operand the host hands over: `REQ` holds its eight bytes (R76,
R34, R74 (b)). -/
def execFrameWriteCoilRequest (a h l v c d : Byte) (s : State) : Host.Outcome State Fault Refusal :=
  loadRequest [a, 0x05#8, h, l, v, 0x00#8, c, d] s

/-- The read-coils request frame, as the operand the host hands over (R77, R34, R74 (b)). -/
def execFrameReadCoilsRequest (a c d : Byte) (s : State) : Host.Outcome State Fault Refusal :=
  loadRequest [a, 0x01#8, 0x00#8, 0x00#8, 0x00#8, 0x08#8, c, d] s

/-- The write-coil response frame, arriving from the line: its eight bytes join the receive path while
`DE = 0` and are lost while `DE = 1` (R78, R28, R66 (a), R135). -/
def execFrameWriteCoilResponse (a h l v c d : Byte) (s : State) : Host.Outcome State Fault Refusal :=
  .next (deliver [a, 0x05#8, h, l, v, 0x00#8, c, d] s)

/-- The read-coils response frame, arriving from the line (R79, R28, R66 (a), R135). -/
def execFrameReadCoilsResponse (a m c d : Byte) (s : State) : Host.Outcome State Fault Refusal :=
  .next (deliver [a, 0x01#8, 0x01#8, m, c, d] s)

end Sys2Proof.Machine
end

