-- ==== Sys2Proof/Machine/Phases.lean ====
section
/-! DEFINITION. The sequencer, one phase step at a time (10_state.md R33): the phases of `TRANSMIT` and
`RECEIVE` (41_transport.md R121 to R147), how a transport operation ends, alone or inside an attempt
(R150 to R154), and the transitions of a transaction (43_transaction_sequencer.md R205). -/

namespace Sys2Proof.Machine

/-- The checker of the transaction in progress, applied to `REQ` and `RSP` (R191, R200). -/
def attemptCheck (s : State) : Verdict :=
  if reading s then parseReadCoils s.req s.rsp else validateWriteCoil s.req s.rsp

/-- The checker has accepted: `SUCCEEDED`, and the bitmask goes to `RES8` for `READ_COILS` (R195, R200). -/
def attemptSucceeds (s : State) : State :=
  { s with phase := .succeeded, timers := {},
           res8 := if reading s then coilBitmask s.rsp else s.res8 }

/-- The attempt has failed, by whatever kind (R194): `RETRYING(n)`, its delay started, while n is below
`MAX_RETRIES`, else `EXHAUSTED` (R193, R196, R205). -/
def attemptFails (s : State) : State :=
  if s.att < s.cfg.maxRetries then
    { s with phase := .retrying, timers := { retry := some (s.now + s.cfg.retryDelay) } }
  else { s with phase := .exhausted, timers := {} }

/-- The `EXCHANGE` of an attempt has ended with a status: the checker runs only if that is `OK` (R194). -/
def concludeAttempt (st : Status) (s : State) : State :=
  if st = .ok then
    let v := attemptCheck s
    if v.status = .ok then attemptSucceeds (noteCrc v s) else attemptFails (noteCrc v s)
  else attemptFails s

/-- A transport operation ends: inside an attempt its status is absorbed by the sequencer (R225), else it is
the status of the command (R222). -/
def endTransport (st : Status) (s : State) : State :=
  match s.phase with
  | .attempting _ => concludeAttempt st s
  | _ => finish st s

/-- A transmission ends with `TxError`; `RSP_LEN <- 0` where a receive would have followed (R151, R212). -/
def failTransmit (s : State) : State :=
  endTransport .txError (if exchanging s then writeRsp [] s else s)

/-- The error exit on a budget expiry: `DE <- 0` at once, without the hold, and the transmitter is emptied
(R133). -/
def abortTransmit (s : State) : State :=
  failTransmit (lowerDe { s with txq := [], txsr := none, timers := {} })

/-- `TRANSMIT` begins with its length check, before anything else (R122); the phase is already that of the
attempt when the operation is one's. -/
def startTransmit (s : State) : State :=
  if (requestOperand s).length = 0 ∨ s.cfg.txCap < (requestOperand s).length then failTransmit s
  else enter .txFlush s

/-- `RECEIVE` is about to begin: the first-byte timer is started by the sequencer's next step (R140, R152). -/
def startReceive (s : State) : State := enter .rxWaitFirst { s with timers := {} }

/-- A byte is taken: the capacity stop, or the idle timer afresh (R141, R142). -/
def takeByte (b : Byte) (rest : List Byte) (s : State) : State :=
  let t := storeReceived b rest s
  if t.rsp.length = t.cfg.rxCap then endTransport .ok t
  else enter .rxCollect { t with timers := { idle := some (t.now + t.cfg.tIdle) } }

/-- `TX_WRITE(i)`: hand over byte i when there is room, take the error exit when the budget has run out,
else wait; after the last byte, wait for the last bit (R127, R128, R132). -/
def writePhase (i : Nat) (s : State) : State :=
  if i < s.req.length then
    if s.txRoom then enter (.txWrite (i + 1)) (uartWrite (byteAt s.req i) s)
    else if expired s.timers.txBudget s.now then abortTransmit s
    else s
  else enter .txWaitTc { s with timers := { s.timers with txBudget := some (s.now + s.cfg.tTxBudget) } }

/-- `TX_WAIT_TC`: go on when the last bit has left, take the error exit when the budget has run out, else
wait (R128, R132). -/
def waitTcPhase (s : State) : State :=
  if uartTc s then enter .txHold { s with timers := { s.timers with txBudget := none } }
  else if expired s.timers.txBudget s.now then abortTransmit s
  else s

/-- `TX_RELEASE`: `DE <- 0`; then the operation ends, or the receive part starts (R131, R152). -/
def releasePhase (s : State) : State :=
  if exchanging s then startReceive (lowerDe s) else endTransport .ok (lowerDe s)

/-- `RX_WAIT_FIRST`: at first `RSP_LEN <- 0` and the timer is started; then a waiting byte is the first
byte, whatever the timeout is; without one the expiry ends the operation (R140, R143). -/
def waitFirstPhase (s : State) : State :=
  match s.timers.first with
  | none => writeRsp [] { s with timers := { first := some (s.now + firstByteTimeout s) } }
  | some d =>
    match s.rxq with
    | b :: rest => takeByte b rest s
    | [] => if expired (some d) s.now then endTransport .rxTimeout s else s

/-- `RX_COLLECT`: take the next byte; without one the idle expiry ends the operation `OK` (R141, R144). -/
def collectPhase (s : State) : State :=
  match s.rxq with
  | b :: rest => takeByte b rest s
  | [] => if expired s.timers.idle s.now then endTransport .ok s else s

/-- One step of a transport phase. -/
def lineStep (p : LinePhase) (s : State) : State :=
  match p with
  | .txFlush => enter .txAssert (uartFlush s)
  | .txAssert =>
    enter .txSettle (raiseDe { s with timers := { settle := some (s.now + s.cfg.tSettle) } })
  | .txSettle =>
    if expired s.timers.settle s.now then
      enter (.txWrite 0) { s with timers := { txBudget := some (s.now + s.cfg.tTxBudget) } }
    else s
  | .txWrite i => writePhase i s
  | .txWaitTc => waitTcPhase s
  | .txHold => if expired s.timers.hold s.now then enter .txRelease s else s
  | .txRelease => releasePhase s
  | .rxWaitFirst => waitFirstPhase s
  | .rxCollect => collectPhase s

/-- Attempt n begins: `ATT <- n`, `PHASE <- ATTEMPTING(n)`, and its `EXCHANGE` starts to transmit (R191,
R193). -/
def beginAttempt (n : Nat) (s : State) : State :=
  startTransmit { s with att := n, phase := .attempting .txFlush, timers := {} }

/-- `BUILDING`: the request of the transaction, built once from the fields of `CMD` (R65, R191, R192,
R200). -/
def buildingPhase (s : State) : State :=
  if reading s then beginAttempt 1 (buildRequest (readCoilsBody s.cfg) s)
  else if channelOk s.cfg (chanField s.cmd) then
    beginAttempt 1 (buildRequest (writeCoilBody s.cfg (stateField s.cmd) (chanField s.cmd)) s)
  else finish .invalidParameter s

/-- `EXHAUSTED`: the transaction ends `Timeout`, whatever the failures were (R197); `RES8` of a read is
then unspecified (R201). -/
def exhaustedPhase (s : State) : State :=
  finish .timeout (if reading s then scrambleRes8 s else s)

/-- One step of the sequencer: the next phase, or one poll of what the phase waits for (R7 (2), R205). -/
def sequencerStep (s : State) : State :=
  match s.phase with
  | .idle => s
  | .transport p => lineStep p s
  | .compute => s
  | .building => buildingPhase s
  | .attempting p => lineStep p s
  | .retrying => if expired s.timers.retry s.now then beginAttempt (s.att + 1) s else s
  | .succeeded => finish .ok s
  | .exhausted => exhaustedPhase s

/-- The last bit has left on the very tick at which the budget of `TX_WAIT_TC` runs out: `t_hold` was started on this
tick, by the last `TX` event (R221, R229). -/
def budgetCoincides (s : State) : Bool :=
  linePhase s.phase == some .txWaitTc && uartTc s && s.timers.txBudget == some s.now &&
  s.timers.hold == some (s.now + s.cfg.tHold)

/-- The sequencer's step where the timer wins a coincidence: the error exit after all the `TX` events, the draw
"stall(n)" (R133, R137, R221). Anywhere else it is the sequencer's ordinary step; the other coincidences are decided by
the order of the moves, a byte or room that comes after the poll having come too late. -/
def timerFirstStep (s : State) : State :=
  if budgetCoincides s then abortTransmit s else sequencerStep s

/-- The phase in progress waits for something that has not come true, and the deadline of the wait has been
passed (R229: "the phase ends when the deadline passes, or earlier when its condition comes true"). -/
def deadlinePassed (s : State) : Bool :=
  match linePhase s.phase with
  | some (.txWrite i) => decide (i < s.req.length) && !s.txRoom && overdue s.timers.txBudget s.now
  | some .txWaitTc => !uartTc s && overdue s.timers.txBudget s.now
  | some .rxWaitFirst => !uartAvail s && overdue s.timers.first s.now
  | some .rxCollect => !uartAvail s && overdue s.timers.idle s.now
  | _ => false

/-- `NOW` advances by n ticks (R44, R66 (c)). A wait whose deadline this passes ends by its expiry: a byte
that arrives later can no longer be taken by it (R143, R229). -/
def advanceClock (n : Nat) (s : State) : State :=
  let t := { s with now := s.now + n }
  if deadlinePassed t then sequencerStep t else t

end Sys2Proof.Machine
end

