-- ==== Sys2Proof/Machine/Events.lean ====
section
/-! DEFINITION. What each agent's move does to the block (00_scope.md R7, 20_memory.md R66,
70_reset_and_hazards.md R268), how a command runs from its acceptance to its end while they move (R60), and
the shape shared by the ten commands. -/

namespace Sys2Proof.Machine

/-- One move, when it is not the acceptance of a command. A command word presented while `BUSY = 1` has no
effect and is not queued (R22). -/
def perform (e : Event) (s : State) : Host.Outcome State Fault Refusal :=
  match e with
  | .hostCommand _ _ _ => .next s
  | .hostRequest bytes => loadRequest bytes s
  | .hostResponse bytes => loadResponse bytes s
  | .reset u => .next (resetBlock u s)
  | .line bytes => .next (deliver bytes s)
  | .uartRoom r => .next { s with txRoom := r }
  | .uartLoad => .next (uartLoad s)
  | .uartShift => .next (uartShift s)
  | .clock n => .next (advanceClock n s)
  | .sequencer => .next (sequencerStep s)
  | .timerFirst => .next (timerFirstStep s)

/-- The command in progress runs: the moves of the script happen in order until the command has ended
(`BUSY = 0`) or the script has no more. What is left of the script stays. A command whose script ends early is
still in progress in the next state: with nobody moving, the clock included, a wait goes on (R236 (b), U16). -/
def drive : List Event → State → Host.Outcome State Fault Refusal
  | [], s => .next { s with script := [] }
  | e :: es, s =>
    if s.busy then
      match perform e s with
      | .next t => drive es t
      | .fault r => .fault r
      | .refused r => .refused r
    else .next { s with script := e :: es }

/-- The shape of every command: turned away while `BUSY = 1` (R22), refused under a configuration outside
R8 (R236 (c)), else accepted (R26), started by `body`, and run (R60: every effect of a command happens before any
effect of the next). An operand buffer holds a value from reset on, and a command runs on what it holds (log entry
29). -/
def runCommand (w : CommandWord) (body : State → State) (s : State) :
    Host.Outcome State Fault Refusal :=
  if s.busy then .next s
  else if s.cfg.ok then drive s.script (body (accept w s))
  else .refused .configurationOutOfRange

end Sys2Proof.Machine
end

