-- ==== Sys2Proof/Machine/Codec.lean ====
section
/-! DEFINITION. The meanings of the four commands of the frame codec (42_frame_codec.md R160, R166, R172,
R178). Each ends in one step and never touches the line (R185). -/

namespace Sys2Proof.Machine

/-- `BUILD_WC channel, state` (R160 to R162). -/
def execBuildWc (st : Bool) (ch : Word) (s : State) : Host.Outcome State Fault Refusal :=
  runCommand (commandWord 0x4#4 st ch)
    (fun t =>
      if channelOk t.cfg ch then
        finish .ok (buildRequest (writeCoilBody t.cfg st ch) { t with phase := .compute })
      else finish .invalidParameter { t with phase := .compute }) s

/-- `BUILD_RC` (R166, R167). -/
def execBuildRc (st : Bool) (ch : Word) (s : State) : Host.Outcome State Fault Refusal :=
  runCommand (commandWord 0x5#4 st ch)
    (fun t => finish .ok (buildRequest (readCoilsBody t.cfg) { t with phase := .compute })) s

/-- `VALIDATE_WC` (R172 to R177). -/
def execValidateWc (st : Bool) (ch : Word) (s : State) : Host.Outcome State Fault Refusal :=
  runCommand (commandWord 0x6#4 st ch)
    (fun t =>
      let v := validateWriteCoil (requestOperand t) t.rsp
      finish v.status (noteCrc v { t with phase := .compute })) s

/-- `PARSE_RC` (R178 to R183): `RES8 <- rsp[3]` on success, unspecified on any failure. -/
def execParseRc (st : Bool) (ch : Word) (s : State) : Host.Outcome State Fault Refusal :=
  runCommand (commandWord 0x7#4 st ch)
    (fun t =>
      let v := parseReadCoils (requestOperand t) t.rsp
      let u := noteCrc v { t with phase := .compute }
      finish v.status (if v.status = .ok then { u with res8 := coilBitmask t.rsp } else scrambleRes8 u)) s

end Sys2Proof.Machine
end

