-- ==== Sys2Proof/Machine/CrcEngine.lean ====
section
/-! DEFINITION. The meaning of the command of the CRC engine (40_crc_engine.md R101). -/

namespace Sys2Proof.Machine

/-- `CRC16 data` (R101): `RES16` and the accumulator hold `crc16(data)`; it cannot fail. -/
def execCrc16 (st : Bool) (ch : Word) (s : State) : Host.Outcome State Fault Refusal :=
  runCommand (commandWord 0x0#4 st ch)
    (fun t =>
      finish .ok { t with phase := .compute, crc := crc16 t.dataIn, res16 := crc16 t.dataIn }) s

end Sys2Proof.Machine
end

