-- ==== Sys2Proof/Machine/Sequencer.lean ====
section
/-! DEFINITION. The meanings of the two transaction commands (43_transaction_sequencer.md R191, R200); their
states are in Machine/Phases.lean. -/

namespace Sys2Proof.Machine

/-- `WRITE_COIL channel, state` (R191): `BUILDING` and on (R205). -/
def execWriteCoil (st : Bool) (ch : Word) (s : State) : Host.Outcome State Fault Refusal :=
  runCommand (commandWord 0x8#4 st ch) (fun t => { t with phase := .building }) s

/-- `READ_COILS` (R200): `BUILDING` and on (R205). -/
def execReadCoils (st : Bool) (ch : Word) (s : State) : Host.Outcome State Fault Refusal :=
  runCommand (commandWord 0x9#4 st ch) (fun t => { t with phase := .building }) s

end Sys2Proof.Machine
end

