-- ==== Sys2Proof/Machine/Transport.lean ====
section
/-! DEFINITION. The meanings of the three commands of the transport (41_transport.md R121, R140, R150);
their phases are in Machine/Phases.lean. -/

namespace Sys2Proof.Machine

/-- `TRANSMIT` (R121): the length check, then the phases from `TX_FLUSH` to `TX_RELEASE`. -/
def execTransmit (st : Bool) (ch : Word) (s : State) : Host.Outcome State Fault Refusal :=
  runCommand (commandWord 0x1#4 st ch) startTransmit s

/-- `RECEIVE tmo` (R140): `RX_WAIT_FIRST`, then `RX_COLLECT`. -/
def execReceive (st : Bool) (ch : Word) (s : State) : Host.Outcome State Fault Refusal :=
  runCommand (commandWord 0x2#4 st ch) startReceive s

/-- `EXCHANGE tmo` (R150): `TRANSMIT`, and `RECEIVE` if that ended `OK`. -/
def execExchange (st : Bool) (ch : Word) (s : State) : Host.Outcome State Fault Refusal :=
  runCommand (commandWord 0x3#4 st ch) startTransmit s

end Sys2Proof.Machine
end

