-- ==== Sys2Proof/Machine/Dispatch.lean ====
section
/-! DEFINITION. One arm per constructor of Instr: the meaning of each row of the opcode table. -/

namespace Sys2Proof.Machine

def exec (i : Instr) (s : State) : Host.Outcome State Fault Refusal :=
  match i with
  | .crc16 st ch => Sys2Proof.Machine.execCrc16 st ch s
  | .transmit st ch => Sys2Proof.Machine.execTransmit st ch s
  | .receive st ch => Sys2Proof.Machine.execReceive st ch s
  | .exchange st ch => Sys2Proof.Machine.execExchange st ch s
  | .buildWc st ch => Sys2Proof.Machine.execBuildWc st ch s
  | .buildRc st ch => Sys2Proof.Machine.execBuildRc st ch s
  | .validateWc st ch => Sys2Proof.Machine.execValidateWc st ch s
  | .parseRc st ch => Sys2Proof.Machine.execParseRc st ch s
  | .writeCoil st ch => Sys2Proof.Machine.execWriteCoil st ch s
  | .readCoils st ch => Sys2Proof.Machine.execReadCoils st ch s
  | .frameWriteCoilRequest a h l v c d => Sys2Proof.Machine.execFrameWriteCoilRequest a h l v c d s
  | .frameReadCoilsRequest a c d => Sys2Proof.Machine.execFrameReadCoilsRequest a c d s
  | .frameWriteCoilResponse a h l v c d => Sys2Proof.Machine.execFrameWriteCoilResponse a h l v c d s
  | .frameReadCoilsResponse a m c d => Sys2Proof.Machine.execFrameReadCoilsResponse a m c d s

end Sys2Proof.Machine
end

