-- ==== Sys2Proof/Machine/Fetch.lean ====
section
/-! DEFINITION. Where an instruction comes from. The block fetches none (20_memory.md R50, R65): the host
presents a command word or loads a frame, the line delivers one, and each is a move of the script. -/

namespace Sys2Proof.Machine

/-- The host presents a command word with its operands beside it (R71, R74): not accepted and without any
effect while `BUSY = 1` (R22), ended at once with `InvalidParameter` when it is reserved (R73), else run. -/
def acceptWord (w : CommandWord) (tmo : Nat) (data : List Byte) (s : State) :
    Host.Outcome State Fault Refusal :=
  if s.busy then .next s
  else match decode (.command w) with
    | .ok i => exec i { s with tmoIn := tmo, dataIn := data }
    | .error _ => .next (rejectCommand s)

/-- The move at the head of the script. Bytes that are a frame are that frame's instruction; bytes that are
none are loaded or delivered like any others (R66 (a), R74 (b)). -/
def fetchAndRun (e : Event) (s : State) : Host.Outcome State Fault Refusal :=
  match e with
  | .hostCommand w tmo data => acceptWord w tmo data s
  | .hostRequest bytes =>
    match decode (.request bytes) with
    | .ok i => exec i s
    | .error _ => perform e s
  | .line bytes =>
    match decode (.response bytes) with
    | .ok i => exec i s
    | .error _ => perform e s
  | .hostResponse _ => perform e s
  | .reset _ => perform e s
  | .uartRoom _ => perform e s
  | .uartLoad => perform e s
  | .uartShift => perform e s
  | .clock _ => perform e s
  | .sequencer => perform e s
  | .timerFirst => perform e s

/-- The move by which an instruction is presented. -/
def moveOf (s : State) : Fetched → Event
  | .command w => .hostCommand w s.tmoIn s.dataIn
  | .request bytes => .hostRequest bytes
  | .response bytes => .line bytes

end Sys2Proof.Machine
end

