-- ==== Sys2Proof/Machine/Step.lean ====
section
/-! DEFINITION. One step of the machine: the move at the head of the script. When it presents a command to an
idle block, the step is that whole command (R60); when a command is in progress, the step is one move. -/

namespace Sys2Proof.Machine

/-- With nothing to come, the block waits (R234, R240). -/
def step (s : State) : Host.Outcome State Fault Refusal :=
  match s.script with
  | [] => .next s
  | e :: es => fetchAndRun e { s with script := es }

/-- `s` with the instruction of an opcode-table word presented next: its move stands at the head of the script,
and nothing else changes (log entry 6). -/
def State.withFetchWord (s : State) (nbits w : Nat) : State :=
  { s with script := moveOf s (fetchedOfTableWord nbits w) :: s.script }

end Sys2Proof.Machine
end

