-- ==== Sys2Proof/Machine/Scripts.lean ====
section
/-! DEFINITION. Scripted lines: the deterministic oracles that 20_memory.md R66 calls the test doubles of the
source's section 8, as lists of moves. They are what the spec's worked examples and the completion statements
run against; the machine does not depend on them. -/

namespace Sys2Proof.Machine

/-- The transmitter takes each of n bytes as it is written and shifts it out `gap` ticks later. -/
def writesScript (gap : Nat) : Nat → List Event
  | 0 => []
  | n + 1 => [.sequencer, .uartLoad, .clock gap, .uartShift] ++ writesScript gap n

/-- A transmission of n bytes, from `TX_FLUSH` to `DE_DOWN`, in which every wait lasts exactly as long as it
must and the transmitter needs `gap` ticks for each byte. -/
def sendScript (c : Config) (gap n : Nat) : List Event :=
  [.uartRoom true, .sequencer, .sequencer, .clock c.tSettle, .sequencer] ++ writesScript gap n ++
  [.sequencer, .sequencer, .clock c.tHold, .sequencer, .sequencer]

/-- The wire events of the bytes of that transmission, the first written at tick t. -/
def txTrace (gap : Nat) : Nat → List Byte → List (WireEvent × Nat)
  | _, [] => []
  | t, b :: bs => (.tx b, t + gap) :: txTrace gap (t + gap) bs

/-- The wire trace of that transmission, begun at tick t with k stale bytes in the receive path (R61). -/
def sendTrace (c : Config) (gap k t : Nat) (bytes : List Byte) : List (WireEvent × Nat) :=
  [(.flush k, t), (.deUp, t)] ++ txTrace gap (t + c.tSettle) bytes ++
  [(.deDown, t + c.tSettle + gap * bytes.length + c.tHold)]

/-- The tick at which that transmission ends. -/
def sendEnd (c : Config) (gap t n : Nat) : Nat := t + c.tSettle + gap * n + c.tHold

/-- The line delivers the bytes one by one, each `gap` ticks after the one before, and each is taken at
once. -/
def arrivals (gap : Nat) : List Byte → List Event
  | [] => []
  | b :: bs => [.clock gap, .line [b], .sequencer] ++ arrivals gap bs

/-- A receive of those bytes, from its start to the capacity stop (R142) or else the expiry of the idle timer
(R141). -/
def answerScript (c : Config) (gap : Nat) (bytes : List Byte) : List Event :=
  [.sequencer] ++ arrivals gap bytes ++
  (if bytes.length = c.rxCap then [] else [.clock c.tIdle, .sequencer])

/-- The tick at which that receive, begun at tick t, ends. -/
def answerEnd (c : Config) (gap t n : Nat) : Nat := t + gap * n + (if n = c.rxCap then 0 else c.tIdle)

/-- The wire events of those bytes, the receive begun at tick t (R58). -/
def rxTrace (gap : Nat) : Nat → List Byte → List (WireEvent × Nat)
  | _, [] => []
  | t, b :: bs => (.rx b, t + gap) :: rxTrace gap (t + gap) bs

/-- A receive on a silent line, up to its first-byte timeout. -/
def silenceScript (timeout : Nat) : List Event := [.sequencer, .clock timeout, .sequencer]

/-- n attempts of a transaction on a silent line, each but the last followed by the retry delay (R196). -/
def silentAttempts (c : Config) (gap len : Nat) : Nat → List Event
  | 0 => []
  | 1 => sendScript c gap len ++ silenceScript c.attemptTimeout
  | n + 2 => sendScript c gap len ++ silenceScript c.attemptTimeout ++
      [.clock c.retryDelay, .sequencer] ++ silentAttempts c gap len (n + 1)

/-- One attempt of a transaction: its eight bytes are sent, and the answer comes; no byte stands for a silent
line. -/
def attemptScript (c : Config) (gap : Nat) (answer : List Byte) : List Event :=
  sendScript c gap 8 ++
  (if answer = [] then silenceScript c.attemptTimeout else answerScript c gap answer)

/-- The failed attempts of a block transaction, each followed by the retry delay (R196). -/
def blockRounds (c : Config) (gap : Nat) : List (List Byte) → List Event
  | [] => []
  | a :: as => attemptScript c gap a ++ [.clock c.retryDelay, .sequencer] ++ blockRounds c gap as

/-- One attempt as the host composes it: `EXCHANGE`, and the check if that ended `OK` (R207). -/
def hostRound (c : Config) (gap : Nat) (check : CommandWord) (answer : List Byte) : List Event :=
  [.hostCommand (commandWord 0x3#4 false 0#16) c.attemptTimeout []] ++ attemptScript c gap answer ++
  (if answer = [] then [] else [.hostCommand check 0 []])

/-- The failed attempts as the host composes them, with `wait(RETRY_DELAY)` after each (R207). -/
def hostRounds (c : Config) (gap : Nat) (check : CommandWord) : List (List Byte) → List Event
  | [] => []
  | a :: as => hostRound c gap check a ++ [.clock c.retryDelay] ++ hostRounds c gap check as

/-- The bytes the line has delivered in the moves of a script. -/
def delivered : List Event → List Byte
  | [] => []
  | .line bytes :: es => bytes ++ delivered es
  | _ :: es => delivered es

/-- The move is neither the reset nor a host's load of an operand: those are the moves a host must not make
while a command is in progress (R264) and the one that abandons the command (R245). -/
def Event.lineSide : Event → Bool
  | .hostCommand _ _ _ => true
  | .hostRequest _ => false
  | .hostResponse _ => false
  | .reset _ => false
  | .line _ => true
  | .uartRoom _ => true
  | .uartLoad => true
  | .uartShift => true
  | .clock _ => true
  | .sequencer => true
  | .timerFirst => true

/-- How many events of a kind a wire trace holds. -/
def countEvents (p : WireEvent → Bool) (tr : List (WireEvent × Nat)) : Nat := tr.countP fun r => p r.1

def WireEvent.isDeUp : WireEvent → Bool
  | .deUp => true
  | _ => false

def WireEvent.isDeDown : WireEvent → Bool
  | .deDown => true
  | _ => false

def WireEvent.isFlush : WireEvent → Bool
  | .flush _ => true
  | _ => false

def WireEvent.isTx : WireEvent → Bool
  | .tx _ => true
  | _ => false

end Sys2Proof.Machine
end

