-- ==== Sys2Proof/Safety.lean ====
section
/-! DEFINITION. What counts as a safe state and a safe run of the block, in the terms the statements use: the
direction line is released whenever the block is not driving a frame (10_state.md R21, 41_transport.md R134),
the buffers keep their capacities (R29, R30), and the sequencer's phase agrees with `BUSY` and `DE`. -/

namespace Sys2Proof.Machine

/-- `DE = 0` whenever `BUSY = 0` (R21, R134). -/
def State.lineReleased (s : State) : Prop := s.busy = false → s.de = false

/-- The phase is one of a transaction's attempts (R190). -/
def Phase.inTransaction : Phase → Bool
  | .attempting _ => true
  | .retrying => true
  | .succeeded => true
  | .exhausted => true
  | .idle => false
  | .transport _ => false
  | .compute => false
  | .building => false

/-- The phase is one in which a frame is being sent: from `TX_FLUSH` to `TX_RELEASE`. -/
def LinePhase.sending : LinePhase → Bool
  | .rxWaitFirst => false
  | .rxCollect => false
  | .txFlush => true
  | .txAssert => true
  | .txSettle => true
  | .txWrite _ => true
  | .txWaitTc => true
  | .txHold => true
  | .txRelease => true

/-- The invariant of the block. -/
structure State.Inv (s : State) : Prop where
  /-- `BUSY = 1` exactly while an operation is in progress (R22, R33). -/
  busy_iff : s.busy = true ↔ s.phase ≠ .idle
  /-- `COMPUTE` is passed through inside one step (R33, R185). -/
  no_compute : s.phase ≠ .compute
  /-- `DE = 1` exactly from `TX_ASSERT` to `TX_RELEASE` (R124, R131, R133). -/
  de_eq : s.de = s.phase.drives
  /-- Nothing is in the transmitter while `DE = 0` (R27, R128, R133). -/
  tx_empty : s.de = false → s.txq = [] ∧ s.txsr = none
  /-- `DONE` and `BUSY` exclude each other (R22). -/
  not_done : s.busy = true → s.done = false
  /-- No timer runs outside an operation (R38). -/
  no_timer : s.phase = .idle → s.timers = {}
  /-- `REQ_LEN ≤ TX_CAP` (R29). -/
  req_fits : s.req.length ≤ s.cfg.txCap
  /-- `RSP_LEN ≤ RX_CAP` (R30). -/
  rsp_fits : s.rsp.length ≤ s.cfg.rxCap
  /-- Only an over-long operand stands beside `REQ` (C12 (b)). -/
  over_long : ∀ bytes, s.reqOver = some bytes → s.cfg.txCap < bytes.length
  /-- A command runs only under a configuration within R8 (R236 (c)). -/
  cfg_ok : s.busy = true → s.cfg.ok = true
  /-- The request being sent has a length the check of R122 lets through, and is `REQ` itself. -/
  sending : (linePhase s.phase).any LinePhase.sending = true → 1 ≤ s.req.length ∧ s.reqOver = none
  /-- `RSP_LEN` is 0 from the start of the wait until the first byte is taken (R140, R143). -/
  wait_empty : linePhase s.phase = some .rxWaitFirst → s.timers.first ≠ none → s.rsp = []
  /-- `RX_COLLECT` has taken a byte and has room for another (R142). -/
  collecting : linePhase s.phase = some .rxCollect → 1 ≤ s.rsp.length ∧ s.rsp.length < s.cfg.rxCap
  /-- The attempt number is from 1 to `MAX_RETRIES` (R32, R193). -/
  attempt : s.phase.inTransaction = true → 1 ≤ s.att ∧ s.att ≤ s.cfg.maxRetries
  /-- A retry is waited for only while an attempt is left (R196, R205). -/
  retry_left : s.phase = .retrying → s.att < s.cfg.maxRetries
  /-- The attempts of a transaction send its eight-byte request (R65, R88). -/
  request : s.phase.inTransaction = true → s.req.length = 8 ∧ s.reqOver = none
  /-- `t_settle` runs in `TX_SETTLE` (R229). -/
  settle_runs : linePhase s.phase = some .txSettle → s.timers.settle ≠ none
  /-- `t_txbudget` runs in the writes and in `TX_WAIT_TC` (R229). -/
  budget_runs : ∀ i, linePhase s.phase = some (.txWrite i) ∨ linePhase s.phase = some .txWaitTc →
    s.timers.txBudget ≠ none
  /-- Once a byte has been written, either one is still in the transmitter or `t_hold` runs from the last `TX`
  event (R229). -/
  hold_pending : ∀ i, linePhase s.phase = some (.txWrite (i + 1)) ∨ linePhase s.phase = some .txWaitTc →
    s.txq ≠ [] ∨ s.txsr ≠ none ∨ s.timers.hold ≠ none
  /-- The transmitter is empty when the shift-complete wait is over (R128). -/
  drained : linePhase s.phase = some .txHold ∨ linePhase s.phase = some .txRelease →
    s.txq = [] ∧ s.txsr = none
  /-- `t_hold` runs in `TX_HOLD` (R229). -/
  hold_runs : linePhase s.phase = some .txHold → s.timers.hold ≠ none
  /-- `t_idle` runs in `RX_COLLECT` (R229). -/
  idle_runs : linePhase s.phase = some .rxCollect → s.timers.idle ≠ none
  /-- `t_retry` runs in `RETRYING(n)` (R229). -/
  retry_runs : s.phase = .retrying → s.timers.retry ≠ none

/-- The block can take a command and run it: idle, under a configuration within R8, in a state that meets the
invariant (R22, R236 (c)). -/
def State.ready (s : State) : Prop := s.Inv ∧ s.busy = false ∧ s.cfg.ok = true

/-- The part of a command's end that is the same for every command: `CMD` and `TMO` latched (R26), the status,
`BUSY = 0`, `DONE = 1`, `PHASE = IDLE`, no timer running (R22, R222). Every other field is that of `s`. -/
def State.ended (w : CommandWord) (st : Status) (s : State) : State :=
  { s with cmd := w, tmo := s.tmoIn, status := st, busy := false, done := true, phase := .idle,
           timers := {} }

/-- The host's composition (`build`, then `EXCHANGE` and `check` round by round) and the block command `block`, from
the same state against the same line, with some failed answers and a last one, both run to their ends with the same
wire trace, the same `NOW`, the same final `REQ` and `RSP`, the same bitmask if any, and the same outcome (R207). -/
def composedAgrees (s : State) (gap : Nat) (build check block : CommandWord) (failed : List (List Byte))
    (last : List Byte) : Prop :=
  ∃ k t u,
    Sys2Proof.core.run k
      { s with script := [.hostCommand build 0 []] ++ hostRounds s.cfg gap check failed ++
                         hostRound s.cfg gap check last } = .next t ∧
    step { s with script := [.hostCommand block 0 [], .sequencer] ++ blockRounds s.cfg gap failed ++
                            attemptScript s.cfg gap last ++ [.sequencer] } = .next u ∧
    t.script = [] ∧ u.script = [] ∧ t.busy = false ∧ u.busy = false ∧
    t.trace = u.trace ∧ t.now = u.now ∧ t.req = u.req ∧ t.rsp = u.rsp ∧ readRes8 t = readRes8 u ∧
    (t.status = .ok ↔ u.status = .ok) ∧ (u.status = .ok ∨ u.status = .timeout)

/-- The status codes a command can end with (60_exceptions.md R218). A frame row ends with none. -/
def allowedCodes : Instr → List (BitVec 4)
  | .crc16 _ _ => [0x0#4]
  | .transmit _ _ => [0x0#4, 0x2#4]
  | .receive _ _ => [0x0#4, 0x3#4]
  | .exchange _ _ => [0x0#4, 0x2#4, 0x3#4]
  | .buildWc _ _ => [0x0#4, 0x1#4]
  | .buildRc _ _ => [0x0#4]
  | .validateWc _ _ => [0x0#4, 0x1#4, 0x4#4, 0x5#4, 0x6#4]
  | .parseRc _ _ => [0x0#4, 0x1#4, 0x4#4, 0x5#4, 0x6#4]
  | .writeCoil _ _ => [0x0#4, 0x1#4, 0x7#4]
  | .readCoils _ _ => [0x0#4, 0x7#4]
  | .frameWriteCoilRequest _ _ _ _ _ _ => []
  | .frameReadCoilsRequest _ _ _ => []
  | .frameWriteCoilResponse _ _ _ _ _ _ => []
  | .frameReadCoilsResponse _ _ _ _ => []

/-- A state reached after n steps from s, none of which stops. -/
inductive Reaches : State → State → Prop where
  | refl (s : State) : Reaches s s
  | step {s t u : State} : Reaches s t → step t = .next u → Reaches s u

/-- A run is safe when every state of it keeps the direction line released outside an operation. -/
def SafeRun (s : State) : Prop := ∀ t, Reaches s t → t.lineReleased

end Sys2Proof.Machine
end

