-- ==== Sys2Proof/Certificates/Slice0/Obligations.lean ====
section
/-! DEFINITION. The statements for the provers. Each docstring names the rule of spec/ it formalises. `ready` and
`ended` are in Sys2Proof/Safety.lean, the scripted lines in Sys2Proof/Machine/Scripts.lean. -/

open Sys2Proof Sys2Proof.Machine

/-! ## Encoding -/

/-- Every instruction with an encoding is read back whole: no bit of an encoding is dropped (R71, R72, R76 to
R79). -/
def Obligations.DecodeOfEncodeIsTheInstruction : Prop :=
  ∀ i : Instr, i.wellFormed = true → decode (encode i) = .ok i

/-- What decodes encodes back to the same word or bytes, so no two encodings share an instruction (R71, R72,
R76 to R79). -/
def Obligations.EncodeOfDecodeIsTheWord : Prop :=
  ∀ (f : Fetched) (i : Instr), decode f = .ok i → encode i = f ∧ i.wellFormed = true

/-- A few words of 95_test_vectors.md decode to the instructions they stand for: V2, V50, V55, V62, V18, V23, V24,
V33, P6, V74 and the frames of V21, V23 and V35. The words are the spec's; that byte 0 of a frame stands in bits 7:0
of its number, and that 64 bits are read as the request, is the model's choice (log entry 8). -/
def Obligations.SampleWordsDecode : Prop :=
  decodeTableWord 24 0x000000 = some (.crc16 false 0#16) ∧
  decodeTableWord 24 0x100000 = some (.transmit false 0#16) ∧
  decodeTableWord 24 0x200000 = some (.receive false 0#16) ∧
  decodeTableWord 24 0x300000 = some (.exchange false 0#16) ∧
  decodeTableWord 24 0x410009 = some (.buildWc true 9#16) ∧
  decodeTableWord 24 0x51FFFF = some (.buildRc true 0xFFFF#16) ∧
  decodeTableWord 24 0x600000 = some (.validateWc false 0#16) ∧
  decodeTableWord 24 0x700000 = some (.parseRc false 0#16) ∧
  decodeTableWord 24 0x800002 = some (.writeCoil false 2#16) ∧
  decodeTableWord 24 0x900000 = some (.readCoils false 0#16) ∧
  decodeTableWord 64 0x3A8C00FF00000501 =
    some (.frameWriteCoilRequest 0x01#8 0x00#8 0x00#8 0xFF#8 0x8C#8 0x3A#8) ∧
  decodeTableWord 64 0xCC3D080000000101 = some (.frameReadCoilsRequest 0x01#8 0x3D#8 0xCC#8) ∧
  decodeTableWord 48 0xFDD1B2010101 = some (.frameReadCoilsResponse 0x01#8 0xB2#8 0xD1#8 0xFD#8)

/-- The decoder rejects a command word exactly when its `OP` is 0xA to 0xF or one of bits 19:17 is set (R73). -/
def Obligations.OnlyReservedWordsAreRejected : Prop :=
  ∀ w : CommandWord,
    (∃ r, decode (.command w) = .error r) ↔ (10 ≤ w.toNat / 2 ^ 20 ∨ w.toNat / 2 ^ 17 % 8 ≠ 0)

/-! ## A step and the instruction it runs -/

/-- A reserved command presented to an idle block ends at once with `InvalidParameter` and changes nothing else
(R73). -/
def Obligations.ReservedCommandChangesOnlyStatusAndDone : Prop :=
  ∀ (s : State) (w : CommandWord) (tmo : Nat) (data : List Byte) (es : List Event),
    s.script = .hostCommand w tmo data :: es → s.busy = false →
    (10 ≤ w.toNat / 2 ^ 20 ∨ w.toNat / 2 ^ 17 % 8 ≠ 0) →
    step s = .next { s with script := es, status := .invalidParameter, done := true }

/-- A step runs the decoded instruction: a command word presented to an idle block, a request frame the host
loads, a response frame the line delivers (R22, R74, R66; that these moves are the frame rows' instructions is the
model's choice, log entries 9 and 10). -/
def Obligations.StepRunsTheDecodedInstruction : Prop :=
  (∀ (s : State) (w : CommandWord) (tmo : Nat) (data : List Byte) (es : List Event) (i : Instr),
    s.script = .hostCommand w tmo data :: es → s.busy = false → decode (.command w) = .ok i →
    step s = exec i { s with script := es, tmoIn := tmo, dataIn := data }) ∧
  (∀ (s : State) (bytes : List Byte) (es : List Event) (i : Instr),
    s.script = .hostRequest bytes :: es → decode (.request bytes) = .ok i →
    step s = exec i { s with script := es }) ∧
  (∀ (s : State) (bytes : List Byte) (es : List Event) (i : Instr),
    s.script = .line bytes :: es → decode (.response bytes) = .ok i →
    step s = exec i { s with script := es })

/-- The instruction of a table word that is presented next is the one the next step runs (how a word is presented
is the model's choice, log entries 6 and 8). -/
def Obligations.StepRunsTheTableWord : Prop :=
  ∀ (s : State) (nbits w : Nat) (i : Instr),
    s.busy = false → decodeTableWord nbits w = some i →
    step (s.withFetchWord nbits w) = exec i s

/-- A command presented while `BUSY = 1` has no effect and is not queued, whichever it is (R22). -/
def Obligations.BusyBlockTurnsCommandsAway : Prop :=
  ∀ s : State, s.busy = true →
    (∀ (st : Bool) (ch : Word),
      exec (.crc16 st ch) s = .next s ∧ exec (.transmit st ch) s = .next s ∧
      exec (.receive st ch) s = .next s ∧ exec (.exchange st ch) s = .next s ∧
      exec (.buildWc st ch) s = .next s ∧ exec (.buildRc st ch) s = .next s ∧
      exec (.validateWc st ch) s = .next s ∧ exec (.parseRc st ch) s = .next s ∧
      exec (.writeCoil st ch) s = .next s ∧ exec (.readCoils st ch) s = .next s) ∧
    (∀ (w : CommandWord) (tmo : Nat) (data : List Byte) (es : List Event),
      s.script = .hostCommand w tmo data :: es → step s = .next { s with script := es })

/-! ## The CRC engine -/

/-- `crc16` is the loop of R100: 0xFFFF for no byte; each further byte is combined into the low byte of the
accumulator and 8 rounds follow, the low bit tested before the shift and 0xA001 combined after it. -/
def Obligations.Crc16IsTheBitSerialLoop : Prop :=
  crc16 [] = 0xFFFF#16 ∧
  ∀ (data : List Byte) (b : Byte),
    crc16 (data ++ [b]) =
      (fun acc : Word => if acc.getLsbD 0 then (acc >>> 1) ^^^ 0xA001#16 else acc >>> 1)^[8]
        (crc16 data ^^^ b.setWidth 16)

/-- `CRC16` ends `OK` with `RES16 = crc16(data)`, and writes nothing but `RES16` and the scratch accumulator
beside what every command's end writes (R101; its decision D26 is the spec's own). -/
def Obligations.Crc16CommandResult : Prop :=
  ∀ (s : State) (st : Bool) (ch : Word), s.ready →
    ∃ acc : Word,
      exec (.crc16 st ch) s =
        .next { s.ended (commandWord 0x0#4 st ch) .ok with crc := acc, res16 := crc16 s.dataIn }

/-- Residue: running the engine over a sequence and its own CRC, low byte first, leaves zero (R108 (b)). -/
def Obligations.CrcResidueIsZero : Prop :=
  ∀ data : List Byte, crc16 (data ++ [lo8 (crc16 data), hi8 (crc16 data)]) = 0#16

/-- The function is linear over exclusive-or up to its initial value: three sequences of one length (R108 (c)). -/
def Obligations.CrcIsLinear : Prop :=
  ∀ a b c : List Byte, a.length = b.length → b.length = c.length →
    crc16 a ^^^ crc16 b ^^^ crc16 c =
      crc16 (List.zipWith (· ^^^ ·) (List.zipWith (· ^^^ ·) a b) c)

/-- Any change of a single bit changes the CRC (R108 (d)). -/
def Obligations.CrcDetectsASingleBit : Prop :=
  ∀ (data : List Byte) (i k : Nat), i < data.length → k < 8 →
    crc16 (data.set i (byteAt data i ^^^ (1#8 <<< k))) ≠ crc16 data

/-- The engine may work a byte at a time from a table of 256 words: the step of R100 equals it (R109). -/
def Obligations.TableDrivenCrcAgrees : Prop :=
  ∀ (acc : Word) (b : Byte), crcByte acc b = (acc >>> 8) ^^^ crcByte 0#16 (lo8 acc ^^^ b)

/-! ## The frame codec -/

/-- `BUILD_WC`: inside `[1, RELAY_COUNT]` the eight bytes of R160, coil address `channel - 1` high byte first, and
nothing else written but the scratch accumulator; outside it `InvalidParameter`, no frame built, `REQ` kept, the
CRC engine not run (R160, R161, R162). -/
def Obligations.BuildWriteCoilRequest : Prop :=
  ∀ (s : State) (st : Bool) (ch : Word), s.ready →
    ∃ acc : Word,
      exec (.buildWc st ch) s =
        .next (if 1 ≤ ch.toNat ∧ ch.toNat ≤ s.cfg.relayCount then
                 let body := [s.cfg.slaveAddr, 0x05#8, BitVec.ofNat 8 ((ch.toNat - 1) / 256),
                              BitVec.ofNat 8 ((ch.toNat - 1) % 256), (if st then 0xFF#8 else 0x00#8),
                              0x00#8]
                 { s.ended (commandWord 0x4#4 st ch) .ok with
                   req := body ++ [lo8 (crc16 body), hi8 (crc16 body)], reqWritten := true, reqOver := none,
                   crc := acc }
               else s.ended (commandWord 0x4#4 st ch) .invalidParameter)

/-- `BUILD_RC` always builds the read of start 0, quantity 8, whatever `RELAY_COUNT` and its ignored fields are
(R166, R167). -/
def Obligations.BuildReadCoilsRequest : Prop :=
  ∀ (s : State) (st : Bool) (ch : Word), s.ready →
    ∃ acc : Word,
      exec (.buildRc st ch) s =
        .next (let body := [s.cfg.slaveAddr, 0x01#8, 0x00#8, 0x00#8, 0x00#8, 0x08#8]
               { s.ended (commandWord 0x5#4 st ch) .ok with
                 req := body ++ [lo8 (crc16 body), hi8 (crc16 body)], reqWritten := true, reqOver := none,
                   crc := acc })

/-- Both builders build well-formed frames of 8 bytes, and the echo of a write request is accepted for it (R75,
R76, R77, R78, R88). -/
def Obligations.BuiltRequestsAreWellFormed : Prop :=
  ∀ (c : Config) (st : Bool) (ch : Word),
    (withCrc (writeCoilBody c st ch)).length = 8 ∧ frameCrcOk (withCrc (writeCoilBody c st ch)) = true ∧
    (withCrc (readCoilsBody c)).length = 8 ∧ frameCrcOk (withCrc (readCoilsBody c)) = true ∧
    (validateWriteCoil (withCrc (writeCoilBody c st ch)) (withCrc (writeCoilBody c st ch))).status = .ok

/-- `VALIDATE_WC`: the checks in their order, over offsets 0 to 7 whatever the length, and nothing written but the
scratch accumulator (R172, R173, R174, R175, R177, R184). -/
def Obligations.ValidateWriteCoilVerdict : Prop :=
  ∀ (s : State) (st : Bool) (ch : Word), s.ready →
    ∃ (verdict : Status) (acc : Word),
      exec (.validateWc st ch) s =
        .next { s.ended (commandWord 0x6#4 st ch) verdict with crc := acc } ∧
      (let c := crc16 (s.rsp.take 6)
       if (requestOperand s).length ≠ 8 then verdict = .invalidParameter
       else if s.rsp.length < 8 then verdict = .tooShort
       else if (s.rsp.drop 6).take 2 ≠ [lo8 c, hi8 c] then verdict = .crcMismatch
       else if s.rsp.take 2 ≠ s.req.take 2 then verdict = .headerMismatch
       else if (s.rsp.drop 2).take 4 ≠ (s.req.drop 2).take 4 then verdict = .headerMismatch
       else verdict = .ok)

/-- The echo check is part of the operation: a good CRC and header with another echo is `HeaderMismatch`, and an
accepted response has the request's eight bytes whenever the request is well-formed (R176). -/
def Obligations.AcceptedWriteResponseIsTheEcho : Prop :=
  (∀ (s t : State) (st : Bool) (ch : Word), s.ready → exec (.validateWc st ch) s = .next t →
    requestOperand s = s.req → s.req.length = 8 → 8 ≤ s.rsp.length →
    frameCrcOk (s.rsp.take 8) = true → s.rsp.take 2 = s.req.take 2 →
    (s.rsp.drop 2).take 4 ≠ (s.req.drop 2).take 4 → t.status = .headerMismatch) ∧
  (∀ (s t : State) (st : Bool) (ch : Word), s.ready → exec (.validateWc st ch) s = .next t →
    t.status = .ok → frameCrcOk s.req = true → s.rsp.take 8 = s.req)

/-- `PARSE_RC`: the checks in their order, the CRC bytes the last two of the received length; `RES8` is byte 3 on
success and any value on a failure; nothing else is written but scratch (R178, R179, R180, R181, R182). -/
def Obligations.ParseReadCoilsVerdict : Prop :=
  ∀ (s : State) (st : Bool) (ch : Word), s.ready →
    ∃ (verdict : Status) (acc : Word) (mask : Byte) (n : Nat),
      exec (.parseRc st ch) s =
        .next { s.ended (commandWord 0x7#4 st ch) verdict with crc := acc, res8 := mask, draws := n } ∧
      (let c := crc16 (s.rsp.take (s.rsp.length - 2))
       if (requestOperand s).length ≠ 8 then verdict = .invalidParameter
       else if s.rsp.length < 5 then verdict = .tooShort
       else if s.rsp.drop (s.rsp.length - 2) ≠ [lo8 c, hi8 c] then verdict = .crcMismatch
       else if s.rsp.take 2 ≠ s.req.take 2 then verdict = .headerMismatch
       else verdict = .ok ∧ s.rsp[3]? = some mask)

/-- What `PARSE_RC` does not check (R183): a 5-byte response with a good CRC and header is accepted and its CRC low
byte returned; a longer one is accepted whatever its byte count, and only its first data byte returned. -/
def Obligations.ParseReadCoilsHazards : Prop :=
  ∀ (s : State) (st : Bool) (ch : Word) (a f n : Byte) (rest : List Byte), s.ready →
    s.reqOver = none → s.req.length = 8 → s.req.take 2 = [a, f] →
    s.rsp = withCrc ([a, f, n] ++ rest) →
    ∃ t, exec (.parseRc st ch) s = .next t ∧ t.status = .ok ∧
      (rest = [] → t.res8 = lo8 (crc16 [a, f, n])) ∧ (∀ b bs, rest = b :: bs → t.res8 = b)

/-! ## The wire frames -/

/-- The host's operand loads. A request frame is what `REQ` then holds (R76, R77, R34; that the load is the row's
instruction is the model's choice, log entry 9). So is any byte sequence up to `TX_CAP`; a longer one is not copied
and stands as the operand (C12 (b), log entry 13). A sequence up to `RX_CAP` is what `RSP` then holds (R74 (b),
R34); a longer one is refused (log entry 14). While `BUSY = 1` no load has a meaning and each is refused (R264). -/
def Obligations.RequestFramesLoadReq : Prop :=
  (∀ (s : State) (a h l v c d : Byte), s.ready →
    exec (.frameWriteCoilRequest a h l v c d) s =
      .next { s with req := [a, 0x05#8, h, l, v, 0x00#8, c, d], reqWritten := true, reqOver := none } ∧
    exec (.frameReadCoilsRequest a c d) s =
      .next { s with req := [a, 0x01#8, 0x00#8, 0x00#8, 0x00#8, 0x08#8, c, d], reqWritten := true,
                     reqOver := none }) ∧
  (∀ (s : State) (bytes : List Byte) (es : List Event), s.ready → s.script = .hostRequest bytes :: es →
    (bytes.length ≤ s.cfg.txCap →
      step s = .next { s with script := es, req := bytes, reqWritten := true, reqOver := none }) ∧
    (s.cfg.txCap < bytes.length → ∃ t, step s = .next t ∧
      t = { s with script := es, reqOver := some bytes } ∧ requestOperand t = bytes)) ∧
  (∀ (s : State) (bytes : List Byte) (es : List Event), s.ready → s.script = .hostResponse bytes :: es →
    step s = if bytes.length ≤ s.cfg.rxCap then .next { s with script := es, rsp := bytes, rspWritten := true }
             else .refused .responseExceedsBuffer) ∧
  (∀ (s : State) (bytes : List Byte) (es : List Event) (a h l v c d : Byte), s.busy = true →
    exec (.frameWriteCoilRequest a h l v c d) s = .refused .operandsChangedWhileBusy ∧
    exec (.frameReadCoilsRequest a c d) s = .refused .operandsChangedWhileBusy ∧
    (s.script = .hostRequest bytes :: es ∨ s.script = .hostResponse bytes :: es →
      step s = .refused .operandsChangedWhileBusy))

/-- A response frame the line delivers joins the tail of the receive path while `DE = 0`, and is lost while
`DE = 1` (R78, R79, R28, R66). That the delivery is the row's instruction is the model's choice (log entry 10). -/
def Obligations.ResponseFramesJoinTheReceivePath : Prop :=
  ∀ (s : State) (a h l v m c d : Byte),
    exec (.frameWriteCoilResponse a h l v c d) s =
      .next (if s.de then s else { s with rxq := s.rxq ++ [a, 0x05#8, h, l, v, 0x00#8, c, d] }) ∧
    exec (.frameReadCoilsResponse a m c d) s =
      .next (if s.de then s else { s with rxq := s.rxq ++ [a, 0x01#8, 0x01#8, m, c, d] })

/-- While `DE = 1` the line appends nothing to `RXQ`: no step but a reset changes it (R135). -/
def Obligations.ReceiverIsOffWhileDriving : Prop :=
  ∀ s t : State, s.Inv → s.de = true → step s = .next t →
    (∀ u es, s.script ≠ .reset u :: es) → t.rxq = s.rxq

/-! ## TRANSMIT -/

/-- A byte sequence of length 0 or longer than `TX_CAP` is rejected before anything else: no flush, no `DE_UP`, the
trace unchanged; and the codec never produces either case (R122). -/
def Obligations.TransmitRefusesBadLength : Prop :=
  (∀ (s : State) (st : Bool) (ch : Word), s.ready →
    ((requestOperand s).length = 0 ∨ s.cfg.txCap < (requestOperand s).length) →
    exec (.transmit st ch) s = .next (s.ended (commandWord 0x1#4 st ch) .txError)) ∧
  (∀ (c : Config) (st : Bool) (ch : Word), c.ok = true →
    (withCrc (writeCoilBody c st ch)).length = 8 ∧ (withCrc (readCoilsBody c)).length = 8 ∧ 8 ≤ c.txCap)

/-- `TRANSMIT` against a transmitter that takes every byte sends `REQ` and ends `OK` in receive mode, the stale bytes
discarded, with exactly the wire trace of R61 (R121, R123 to R131). Where the writes take longer than `T_TXBUDGET`,
that they go on while there is room is the model's (log entry 20). -/
def Obligations.TransmitSendsTheRequest : Prop :=
  ∀ (s : State) (st : Bool) (ch : Word) (gap : Nat) (rest : List Event), s.ready →
    s.reqOver = none → 1 ≤ s.req.length → s.script = sendScript s.cfg gap s.req.length ++ rest →
    exec (.transmit st ch) s =
      .next { s.ended (commandWord 0x1#4 st ch) .ok with
              rxq := [], txRoom := true, now := sendEnd s.cfg gap s.now s.req.length,
              trace := s.trace ++ sendTrace s.cfg gap s.rxq.length s.now s.req, script := rest }

/-- However the line, the transmitter and the clock move, a `TRANSMIT` that has ended leaves `DE = 0` and one of two
traces: `FLUSH, DE_UP`, every byte in offset order, `DE_DOWN` with `OK`, the settle and hold delays kept; or a prefix
of the bytes with `TxError` (R61, R126, R130, R131, R133, R134, R137). -/
def Obligations.TransmitTraceOnEveryLine : Prop :=
  ∀ (s t : State) (st : Bool) (ch : Word), s.ready → (s.script.all Event.lineSide) = true →
    s.reqOver = none → 1 ≤ s.req.length → exec (.transmit st ch) s = .next t → t.busy = false →
    t.de = false ∧
    ∃ (k t0 t1 t2 : Nat) (sent : List (WireEvent × Nat)),
      t.trace = s.trace ++ [(.flush k, t0), (.deUp, t1)] ++ sent ++ [(.deDown, t2)] ∧
      (∀ r ∈ sent, t1 + s.cfg.tSettle ≤ r.2) ∧
      ((t.status = .ok ∧ sent.map (·.1) = s.req.map .tx ∧ ∀ r ∈ sent, r.2 + s.cfg.tHold ≤ t2) ∨
       (t.status = .txError ∧ sent.map (·.1) <+: s.req.map .tx))

/-- What the three transport commands leave unchanged at every moment of their run, however the line, the transmitter and
the clock move: `REQ`, `RES8`, `RES16`, the accumulator, the attempt number and the free values; `TRANSMIT` leaves
`RSP` too (R121, R140, R150). -/
def Obligations.TransportFrame : Prop :=
  ∀ (s t : State) (i : Instr) (st : Bool) (ch : Word), s.ready →
    (s.script.all Event.lineSide) = true →
    (i = .transmit st ch ∨ i = .receive st ch ∨ i = .exchange st ch) → exec i s = .next t →
    t.req = s.req ∧ t.reqWritten = s.reqWritten ∧ t.reqOver = s.reqOver ∧ t.res8 = s.res8 ∧
    t.res16 = s.res16 ∧ t.crc = s.crc ∧
    t.att = s.att ∧ t.draws = s.draws ∧ t.cfg = s.cfg ∧ t.tmo = s.tmoIn ∧ t.tmoIn = s.tmoIn ∧
    t.dataIn = s.dataIn ∧ encode i = .command t.cmd ∧
    (i = .transmit st ch → t.rsp = s.rsp ∧ t.rspWritten = s.rspWritten)

/-- What the two transactions leave unchanged at every moment of their run: `RES16`, and for `WRITE_COIL` also `RES8` and the
free values; and `REQ` is afterwards the one request they built, unless the builder refused the channel (R163, R191,
R192, R200). -/
def Obligations.TransactionFrame : Prop :=
  ∀ (s t : State) (st : Bool) (ch : Word), s.ready → (s.script.all Event.lineSide) = true →
    (exec (.writeCoil st ch) s = .next t →
      t.res16 = s.res16 ∧ t.res8 = s.res8 ∧ t.draws = s.draws ∧ t.cfg = s.cfg ∧ t.tmo = s.tmoIn ∧
      t.cmd = commandWord 0x8#4 st ch ∧
      (t.busy = false →
        t.req = if 1 ≤ ch.toNat ∧ ch.toNat ≤ s.cfg.relayCount then withCrc (writeCoilBody s.cfg st ch)
                else s.req)) ∧
    (exec (.readCoils st ch) s = .next t →
      t.res16 = s.res16 ∧ t.cfg = s.cfg ∧ t.tmo = s.tmoIn ∧ t.cmd = commandWord 0x9#4 st ch ∧
      (t.busy = false → t.req = withCrc (readCoilsBody s.cfg)))

/-- Budget expiry in either wait of a `TRANSMIT`: `DE <- 0` at once without the hold, `DE_DOWN`, the transmitter
emptied, `TxError` (R132, R133). -/
def Obligations.BudgetExpiryReleasesTheLine : Prop :=
  ∀ (s : State) (d : Nat), s.Inv → opField s.cmd = 0x1#4 → s.timers.txBudget = some d → d ≤ s.now →
    ((∃ i, s.phase = .transport (.txWrite i) ∧ i < s.req.length ∧ s.txRoom = false) ∨
     (s.phase = .transport .txWaitTc ∧ (s.txq ≠ [] ∨ s.txsr ≠ none))) →
    perform .sequencer s =
      .next { s with de := false, txq := [], txsr := none, trace := s.trace ++ [(.deDown, s.now)],
                     status := .txError, phase := .idle, busy := false, done := true, timers := {} }

/-- The shift-complete wait: with a byte queued or in the shift register no move of any agent begins the hold or the
release (R128). -/
def Obligations.HoldOnlyAfterTheLastBit : Prop :=
  ∀ (e : Event) (s t : State), linePhase s.phase = some .txWaitTc → (s.txq ≠ [] ∨ s.txsr ≠ none) →
    perform e s = .next t →
    linePhase t.phase ≠ some .txHold ∧ linePhase t.phase ≠ some .txRelease

/-! ## RECEIVE -/

/-- However the line and the clock move, a `RECEIVE` that has ended took its bytes in arrival order, the k-th at
`RSP[k]`, and left the rest; it ended `OK` with 1 to `RX_CAP` bytes, or `RxTimeout` with none, so it cannot fail
once a byte was taken (R62, R144). -/
def Obligations.ReceiveTakesBytesInOrder : Prop :=
  ∀ (s t : State) (st : Bool) (ch : Word), s.ready → (s.script.all Event.lineSide) = true →
    exec (.receive st ch) s = .next t → t.busy = false →
    (∃ used, s.script = used ++ t.script ∧ s.rxq ++ delivered used = t.rsp ++ t.rxq) ∧
    (∃ taken, t.trace = s.trace ++ taken ∧ taken.map (·.1) = t.rsp.map .rx) ∧
    ((t.status = .ok ∧ 1 ≤ t.rsp.length ∧ t.rsp.length ≤ s.cfg.rxCap) ∨
     (t.status = .rxTimeout ∧ t.rsp = []))

/-- `RECEIVE` against a line that answers in time collects the answer, up to the idle expiry or the capacity stop
(R140, R141, R142). -/
def Obligations.ReceiveCollectsTheAnswer : Prop :=
  ∀ (s : State) (st : Bool) (ch : Word) (gap : Nat) (bytes : List Byte) (rest : List Event), s.ready →
    s.rxq = [] → 1 ≤ bytes.length → bytes.length ≤ s.cfg.rxCap → gap ≤ s.tmoIn → gap ≤ s.cfg.tIdle →
    s.script = answerScript s.cfg gap bytes ++ rest →
    exec (.receive st ch) s =
      .next { s.ended (commandWord 0x2#4 st ch) .ok with
              rsp := bytes, rspWritten := true, now := answerEnd s.cfg gap s.now bytes.length,
              trace := s.trace ++ rxTrace gap s.now bytes, script := rest }

/-- Bytes already waiting: the first of them is the first byte and the wait ends at once, whatever the timeout is, 0
included. With fewer than `RX_CAP` of them the receive goes on to the idle expiry; with `RX_CAP` or more the capacity
stop ends it without an idle wait and leaves the rest in the receive path (R142, R143). -/
def Obligations.ReceiveStopsAtCapacity : Prop :=
  (∀ (s : State) (st : Bool) (ch : Word) (rest : List Event), s.ready →
    s.cfg.rxCap ≤ s.rxq.length →
    s.script = List.replicate (s.cfg.rxCap + 1) Event.sequencer ++ rest →
    exec (.receive st ch) s =
      .next { s.ended (commandWord 0x2#4 st ch) .ok with
              rsp := s.rxq.take s.cfg.rxCap, rspWritten := true, rxq := s.rxq.drop s.cfg.rxCap,
              trace := s.trace ++ (s.rxq.take s.cfg.rxCap).map (fun b => (.rx b, s.now)),
              script := rest }) ∧
  (∀ (s : State) (st : Bool) (ch : Word) (rest : List Event), s.ready →
    1 ≤ s.rxq.length → s.rxq.length < s.cfg.rxCap →
    s.script = List.replicate (s.rxq.length + 1) Event.sequencer ++ [Event.clock s.cfg.tIdle, Event.sequencer] ++
      rest →
    exec (.receive st ch) s =
      .next { s.ended (commandWord 0x2#4 st ch) .ok with
              rsp := s.rxq, rspWritten := true, rxq := [], now := s.now + s.cfg.tIdle,
              trace := s.trace ++ s.rxq.map (fun b => (.rx b, s.now)), script := rest })

/-- On a silent line `RECEIVE` ends `RxTimeout` with `RSP_LEN = 0` when the timeout has run, having taken nothing
(R143, R213). -/
def Obligations.ReceiveTimesOut : Prop :=
  ∀ (s : State) (st : Bool) (ch : Word) (rest : List Event), s.ready → s.rxq = [] →
    s.script = silenceScript s.tmoIn ++ rest →
    exec (.receive st ch) s =
      .next { s.ended (commandWord 0x2#4 st ch) .rxTimeout with
              rsp := [], rspWritten := true, now := s.now + s.tmoIn, script := rest }

/-- Coincidences with a deadline, both outcomes (R146, R221, R137). A byte that arrives on the very tick the first-byte
timer or the idle timer expires: either it is taken and the operation goes on (up to the capacity stop), or the timer
wins and the byte stays in `RXQ`. Room that comes on the tick the budget of the writes runs out: either the byte is
written, or the timer wins and `TRANSMIT` ends `TxError`. The last
bit that leaves on the very tick the budget of `TX_WAIT_TC` runs out: either the hold begins, or the timer wins and
`TRANSMIT` ends `TxError` after all its `TX` events. -/
def Obligations.CoincidenceHasBothOutcomes : Prop :=
  (∀ (s : State) (b : Byte), s.Inv → opField s.cmd = 0x2#4 → s.phase = .transport .rxWaitFirst →
    s.timers.first = some s.now → s.rxq = [] →
    (∃ t, drive [.line [b], .sequencer] s = .next t ∧ t.busy = true ∧ t.rsp = [b] ∧ t.rxq = []) ∧
    (∃ t u, drive [.sequencer] s = .next t ∧ perform (.line [b]) t = .next u ∧
      t.busy = false ∧ t.status = .rxTimeout ∧ u.rsp = [] ∧ u.rxq = [b])) ∧
  (∀ (s : State) (b : Byte), s.Inv → opField s.cmd = 0x2#4 → s.phase = .transport .rxCollect →
    s.timers.idle = some s.now → s.rxq = [] →
    (∃ t, drive [.line [b], .sequencer] s = .next t ∧ t.rsp = s.rsp ++ [b] ∧ t.rxq = [] ∧
      (t.busy = true ↔ t.rsp.length < s.cfg.rxCap)) ∧
    (∃ t u, drive [.sequencer] s = .next t ∧ perform (.line [b]) t = .next u ∧
      t.busy = false ∧ t.status = .ok ∧ u.rsp = s.rsp ∧ u.rxq = [b])) ∧
  (∀ (s : State) (i : Nat), s.Inv → opField s.cmd = 0x1#4 → s.phase = .transport (.txWrite i) →
    i < s.req.length → s.timers.txBudget = some s.now → s.txRoom = false →
    (∃ t, drive [.uartRoom true, .sequencer] s = .next t ∧ t.busy = true ∧ t.de = true ∧
      t.phase = .transport (.txWrite (i + 1)) ∧ t.txq = s.txq ++ [byteAt s.req i] ∧ t.trace = s.trace) ∧
    (∃ t u, drive [.sequencer] s = .next t ∧ perform (.uartRoom true) t = .next u ∧ t.busy = false ∧
      t.status = .txError ∧ t.de = false ∧ u.txq = [] ∧ t.trace = s.trace ++ [(.deDown, s.now)])) ∧
  (∀ (s : State) (b : Byte), s.Inv → opField s.cmd = 0x1#4 → s.phase = .transport .txWaitTc →
    s.timers.txBudget = some s.now → s.txq = [] → s.txsr = some b →
    (∃ t, drive [.uartShift, .sequencer] s = .next t ∧ t.busy = true ∧ t.phase = .transport .txHold ∧
      t.de = true ∧ t.trace = s.trace ++ [(.tx b, s.now)]) ∧
    (∃ t, drive [.uartShift, .timerFirst] s = .next t ∧ t.busy = false ∧ t.status = .txError ∧
      t.de = false ∧ t.trace = s.trace ++ [(.tx b, s.now), (.deDown, s.now)]))

/-- Once the first-byte deadline has been passed with nothing in the receive path, the receive is over: a byte that
arrives later is not taken by it (R143, R229; the polling grain of one tick is the model's, log entry 17). -/
def Obligations.LateByteIsNotTaken : Prop :=
  ∀ (s : State) (d n : Nat) (b : Byte), s.Inv → opField s.cmd = 0x2#4 →
    s.phase = .transport .rxWaitFirst → s.timers.first = some d → s.rxq = [] → d < s.now + n →
    ∃ t u, perform (.clock n) s = .next t ∧ perform (.line [b]) t = .next u ∧
      t.busy = false ∧ t.status = .rxTimeout ∧ u.rsp = [] ∧ u.rxq = [b] ∧ u.now = s.now + n

/-! ## EXCHANGE -/

/-- `EXCHANGE` against a transmitter that takes every byte and a line that answers in time sends `REQ` and returns the
answer, the timeout running from the end of the hold (R150, R152). Where the writes take longer than `T_TXBUDGET`, that
they go on while there is room is the model's (log entry 20). -/
def Obligations.ExchangeReturnsTheAnswer : Prop :=
  ∀ (s : State) (st : Bool) (ch : Word) (gap : Nat) (bytes : List Byte) (rest : List Event), s.ready →
    s.reqOver = none → 1 ≤ s.req.length → 1 ≤ bytes.length → bytes.length ≤ s.cfg.rxCap →
    gap ≤ s.tmoIn → gap ≤ s.cfg.tIdle →
    s.script = sendScript s.cfg gap s.req.length ++ answerScript s.cfg gap bytes ++ rest →
    exec (.exchange st ch) s =
      .next { s.ended (commandWord 0x3#4 st ch) .ok with
              rsp := bytes, rspWritten := true, rxq := [], txRoom := true,
              now := answerEnd s.cfg gap (sendEnd s.cfg gap s.now s.req.length) bytes.length,
              trace := s.trace ++ sendTrace s.cfg gap s.rxq.length s.now s.req ++
                rxTrace gap (sendEnd s.cfg gap s.now s.req.length) bytes,
              script := rest }

/-- The results of `EXCHANGE`, complete: `OK` with 1 to `RX_CAP` bytes, `TxError` with none, `RxTimeout` with none
(R154). -/
def Obligations.ExchangeResultsAreComplete : Prop :=
  ∀ (s t : State) (st : Bool) (ch : Word), s.ready → (s.script.all Event.lineSide) = true →
    exec (.exchange st ch) s = .next t → t.busy = false →
    (t.status = .ok ∧ 1 ≤ t.rsp.length ∧ t.rsp.length ≤ s.cfg.rxCap) ∨
    (t.status = .txError ∧ t.rsp = []) ∨ (t.status = .rxTimeout ∧ t.rsp = [])

/-- If the transmit part ends with `TxError` the receive part does not run: no `RX` event, no wait after `DE_DOWN` (or
none at all), `RSP_LEN = 0`, `DE = 0`; and an operand `TRANSMIT` refuses is such a `TxError` at once (R151). -/
def Obligations.ExchangeStopsAtTxError : Prop :=
  (∀ (s t : State) (st : Bool) (ch : Word), s.ready → (s.script.all Event.lineSide) = true →
    exec (.exchange st ch) s = .next t → t.busy = false → t.status = .txError →
    t.rsp = [] ∧ t.de = false ∧
    ∃ added, t.trace = s.trace ++ added ∧ (∀ (b : Byte) (n : Nat), (WireEvent.rx b, n) ∉ added) ∧
      (added.getLast? = some (.deDown, t.now) ∨ (added = [] ∧ t.now = s.now))) ∧
  (∀ (s : State) (st : Bool) (ch : Word), s.ready →
    ((requestOperand s).length = 0 ∨ s.cfg.txCap < (requestOperand s).length) →
    exec (.exchange st ch) s = .next { s.ended (commandWord 0x3#4 st ch) .txError with rsp := [], rspWritten := true })

/-- No byte that waited in the receive path when an `EXCHANGE` started is in the `RSP` it ends with: what it returns
was delivered during it, in that order (R63, R123, R254). -/
def Obligations.ExchangeReturnsNoStaleByte : Prop :=
  ∀ (s t : State) (st : Bool) (ch : Word), s.ready → (s.script.all Event.lineSide) = true →
    exec (.exchange st ch) s = .next t → t.busy = false →
    ∃ used, s.script = used ++ t.script ∧ t.rsp.Sublist (delivered used)

/-! ## Transactions -/

/-- Fail fast: a channel outside `[1, RELAY_COUNT]` ends `WRITE_COIL` with `InvalidParameter`, the wire trace and
`REQ` unchanged, at the sequencer's first step (R192). -/
def Obligations.WriteCoilFailsFast : Prop :=
  ∀ (s : State) (st : Bool) (ch : Word) (rest : List Event), s.ready →
    (ch.toNat < 1 ∨ s.cfg.relayCount < ch.toNat) → s.script = .sequencer :: rest →
    exec (.writeCoil st ch) s =
      .next { s.ended (commandWord 0x8#4 st ch) .invalidParameter with script := rest }

/-- `WRITE_COIL` whose first attempt is echoed ends `OK` at once: one request, one answer, no delay (R191, R195). The
value left in the scratch accumulator is the model's (log entry 18); so is it that writes longer than `T_TXBUDGET` go
on while there is room (log entry 20). -/
def Obligations.WriteCoilSucceedsOnTheEcho : Prop :=
  ∀ (s : State) (st : Bool) (ch : Word) (gap : Nat) (rest : List Event), s.ready →
    1 ≤ ch.toNat → ch.toNat ≤ s.cfg.relayCount → gap ≤ s.cfg.tIdle →
    let r := withCrc (writeCoilBody s.cfg st ch)
    s.script = [Event.sequencer] ++ sendScript s.cfg gap 8 ++ answerScript s.cfg gap r ++ [Event.sequencer] ++ rest →
    exec (.writeCoil st ch) s =
      .next { s.ended (commandWord 0x8#4 st ch) .ok with
              req := r, reqWritten := true, reqOver := none, rsp := r, rspWritten := true, rxq := [], txRoom := true,
              crc := crc16 (writeCoilBody s.cfg st ch), att := 1,
              now := answerEnd s.cfg gap (sendEnd s.cfg gap s.now 8) 8,
              trace := s.trace ++ sendTrace s.cfg gap s.rxq.length s.now r ++
                rxTrace gap (sendEnd s.cfg gap s.now 8) r,
              script := rest }

/-- `READ_COILS` whose first attempt is answered by a frame of 5 bytes or more with a good CRC and the request's address
and function code ends `OK` with the frame's byte 3 in `RES8` (R200, R183). The value left in the scratch accumulator is
the model's (log entry 18); so is it that writes longer than `T_TXBUDGET` go on while there is room (log entry 20). -/
def Obligations.ReadCoilsReturnsTheBitmask : Prop :=
  ∀ (s : State) (st : Bool) (ch : Word) (gap : Nat) (n : Byte) (data : List Byte) (rest : List Event),
    s.ready → gap ≤ s.cfg.tIdle →
    let answer := withCrc ([s.cfg.slaveAddr, 0x01#8, n] ++ data)
    let r := withCrc (readCoilsBody s.cfg)
    answer.length ≤ s.cfg.rxCap →
    s.script = [Event.sequencer] ++ sendScript s.cfg gap 8 ++ answerScript s.cfg gap answer ++ [Event.sequencer] ++
      rest →
    exec (.readCoils st ch) s =
      .next { s.ended (commandWord 0x9#4 st ch) .ok with
              req := r, reqWritten := true, reqOver := none, rsp := answer, rspWritten := true, rxq := [],
              txRoom := true, res8 := byteAt answer 3,
              crc := crc16 ([s.cfg.slaveAddr, 0x01#8, n] ++ data), att := 1,
              now := answerEnd s.cfg gap (sendEnd s.cfg gap s.now 8) answer.length,
              trace := s.trace ++ sendTrace s.cfg gap s.rxq.length s.now r ++
                rxTrace gap (sendEnd s.cfg gap s.now 8) answer,
              script := rest }

/-- On a silent line both transactions end `Timeout` after exactly `MAX_RETRIES` attempts, each separated from the next
by the retry delay, none after the last (R193, R196, R197). Where the writes take longer than `T_TXBUDGET`, that they go
on while there is room is the model's (log entry 20). -/
def Obligations.SilentLineExhaustsTheAttempts : Prop :=
  ∀ (s : State) (i : Instr) (st : Bool) (ch : Word) (gap : Nat) (rest : List Event), s.ready →
    (i = .readCoils st ch ∨ (i = .writeCoil st ch ∧ 1 ≤ ch.toNat ∧ ch.toNat ≤ s.cfg.relayCount)) →
    s.script = [Event.sequencer] ++ silentAttempts s.cfg gap 8 s.cfg.maxRetries ++ [Event.sequencer] ++ rest →
    ∃ t, exec i s = .next t ∧ t.busy = false ∧ t.done = true ∧ t.status = .timeout ∧ t.de = false ∧
      t.rsp = [] ∧ t.att = s.cfg.maxRetries ∧ t.script = rest ∧
      countEvents WireEvent.isDeUp t.trace =
        countEvents WireEvent.isDeUp s.trace + s.cfg.maxRetries ∧
      t.now = s.now + s.cfg.maxRetries *
        (s.cfg.tSettle + gap * 8 + s.cfg.tHold + s.cfg.attemptTimeout) +
        (s.cfg.maxRetries - 1) * s.cfg.retryDelay

/-- However the line, the transmitter and the clock move, the statuses a transaction can end with are `OK`,
`InvalidParameter` (only `WRITE_COIL`, exactly on a channel out of range) and `Timeout` (R199). -/
def Obligations.TransactionStatuses : Prop :=
  ∀ (s t : State) (st : Bool) (ch : Word), s.ready → (s.script.all Event.lineSide) = true →
    t.busy = false →
    (exec (.writeCoil st ch) s = .next t →
      (t.status = .ok ∨ t.status = .invalidParameter ∨ t.status = .timeout) ∧
      (t.status = .invalidParameter ↔ (ch.toNat < 1 ∨ s.cfg.relayCount < ch.toNat))) ∧
    (exec (.readCoils st ch) s = .next t → t.status = .ok ∨ t.status = .timeout)

/-- Counting: a transaction that ends `OK` on attempt k has produced exactly k flushes, k `DE_UP` and k `DE_DOWN`, at
least k - 1 retry delays of time and at most 8k `TX`; one that ends `Timeout` has produced `MAX_RETRIES` of each; one
that ends `InvalidParameter` none (R204). -/
def Obligations.TransactionCounts : Prop :=
  ∀ (s t : State) (i : Instr) (st : Bool) (ch : Word), s.ready →
    (s.script.all Event.lineSide) = true → (i = .writeCoil st ch ∨ i = .readCoils st ch) →
    exec i s = .next t → t.busy = false →
    ∃ added k, t.trace = s.trace ++ added ∧
      countEvents WireEvent.isFlush added = k ∧ countEvents WireEvent.isDeUp added = k ∧
      countEvents WireEvent.isDeDown added = k ∧ countEvents WireEvent.isTx added ≤ 8 * k ∧
      s.now + (k - 1) * s.cfg.retryDelay ≤ t.now ∧
      (t.status = .ok → k = t.att ∧ 1 ≤ k ∧ k ≤ s.cfg.maxRetries) ∧
      (t.status = .timeout → k = s.cfg.maxRetries) ∧
      (t.status = .invalidParameter → k = 0 ∧ added = [])

/-- Inside a transaction the statuses of the inner operations are not written to `STATUS`, and every attempt sends the
request that was built once (R65, R225). -/
def Obligations.AttemptsAreAbsorbed : Prop :=
  ∀ s t : State, s.Inv → s.phase.inTransaction = true → step s = .next t →
    t.phase.inTransaction = true → t.status = s.status ∧ t.req = s.req ∧ t.cmd = s.cmd ∧ t.done = s.done

/-- The block command `WRITE_COIL` equals the host's own composition of `BUILD_WC`, `EXCHANGE`, `VALIDATE_WC` and
`wait(RETRY_DELAY)`: after any number of attempts that fail (by silence or by an answer the check refuses), on the
one that is accepted, or on the last one that fails (R207). That writes longer than `T_TXBUDGET` go on while there is
room, in both forms, is the model's (log entry 20). -/
def Obligations.HostComposedWriteAgrees : Prop :=
  ∀ (s : State) (st : Bool) (ch : Word) (gap : Nat) (failed : List (List Byte)) (last : List Byte), s.ready →
    1 ≤ ch.toNat → ch.toNat ≤ s.cfg.relayCount → gap ≤ s.cfg.tIdle → failed.length < s.cfg.maxRetries →
    (∀ a ∈ last :: failed, a.length ≤ s.cfg.rxCap) →
    let r := withCrc (writeCoilBody s.cfg st ch)
    (∀ a ∈ failed, (validateWriteCoil r a).status ≠ .ok) →
    ((validateWriteCoil r last).status = .ok ∨ failed.length + 1 = s.cfg.maxRetries) →
    composedAgrees s gap (commandWord 0x4#4 st ch) (commandWord 0x6#4 st ch) (commandWord 0x8#4 st ch) failed last

/-! ## The whole machine -/

/-- After a reset, at any time, whatever the unspecified items hold: receive mode at once, nothing in progress, the
transmitter empty, no timer running, and no register the host may read before it is written (R240, R245, R244).
That `NOW`, the configuration and the trace are kept, the trace gaining `DE_DOWN`, is the model's choice (log entry 15). -/
def Obligations.ResetAbandonsTheCommand : Prop :=
  ∀ (s : State) (u : ResetDraw) (es : List Event), s.script = .reset u :: es →
    ∃ t, step s = .next t ∧ t.de = false ∧ t.busy = false ∧ t.done = false ∧ t.phase = .idle ∧
      t.txq = [] ∧ t.txsr = none ∧ t.timers = {} ∧ t.cfg = s.cfg ∧ t.now = s.now ∧ t.script = es ∧
      t.rxq = u.rxq ∧ t.trace = s.trace ++ (if s.de then [(.deDown, s.now)] else []) ∧
      readStatus t = none ∧ readRes16 t = none ∧ readRes8 t = none ∧
      ∀ i, readReq t i = none ∧ readRsp t i = none

/-- The invariant holds right after reset, whose unspecified items are the model's choice (log entries 1 and 2). -/
def Obligations.ResetMeetsTheInvariant : Prop := State.reset.Inv

/-- Every step keeps the invariant, from every state that meets it. -/
def Obligations.StepKeepsTheInvariant : Prop :=
  ∀ s t : State, s.Inv → step s = .next t → t.Inv

/-- `BUSY = 0` implies `DE = 0`, in every state of every run from a state that meets the invariant: whatever path an
operation takes, it ends in receive mode (R134). -/
def Obligations.DirectionLineIsAlwaysReleased : Prop := ∀ s : State, s.Inv → SafeRun s

/-- `DE` is moved only by `TRANSMIT`, `EXCHANGE`, `WRITE_COIL` and `READ_COILS`: every other instruction leaves it and the
record of its edges as they were (R21, R185, R228). -/
def Obligations.OnlyTransmittersMoveTheLine : Prop :=
  ∀ (s t : State) (i : Instr) (st : Bool) (ch : Word) (a h l v m c d : Byte), s.ready →
    (s.script.all Event.lineSide) = true →
    i ∈ [Instr.crc16 st ch, .receive st ch, .buildWc st ch, .buildRc st ch, .validateWc st ch,
         .parseRc st ch, .frameWriteCoilRequest a h l v c d, .frameReadCoilsRequest a c d,
         .frameWriteCoilResponse a h l v c d, .frameReadCoilsResponse a m c d] →
    exec i s = .next t →
    t.de = s.de ∧ countEvents WireEvent.isDeUp t.trace = countEvents WireEvent.isDeUp s.trace ∧
    countEvents WireEvent.isDeDown t.trace = countEvents WireEvent.isDeDown s.trace

/-- `NOW` never decreases, and only the clock moves it (R44). That a reset keeps it is the model's choice (log
entry 15). -/
def Obligations.OnlyTheClockMovesNow : Prop :=
  (∀ (e : Event) (s t : State), perform e s = .next t →
    t.now = s.now + (match e with | .clock n => n | _ => 0)) ∧
  (∀ s t : State, step s = .next t → s.now ≤ t.now)

/-- No step changes a configuration constant, and the wire trace only grows (R36, R58). That a reset keeps both is the
model's choice (log entry 15). -/
def Obligations.ConfigurationStaysAndTraceGrows : Prop :=
  ∀ s t : State, step s = .next t → t.cfg = s.cfg ∧ s.trace <+: t.trace

/-- A ready block always answers a command with a next state, however the line, the transmitter and the clock move, and
whether or not its operands have been written since the reset: no error kind stops the machine (R236 (a)). That a
command runs on an operand never written is the model's choice (log entry 29). -/
def Obligations.CommandsNeverStopTheMachine : Prop :=
  ∀ (s : State) (i : Instr) (st : Bool) (ch : Word), s.ready →
    (s.script.all Event.lineSide) = true →
    i ∈ [Instr.crc16 st ch, .transmit st ch, .receive st ch, .exchange st ch, .buildWc st ch,
         .buildRc st ch, .validateWc st ch, .parseRc st ch, .writeCoil st ch, .readCoils st ch] →
    ∃ t, exec i s = .next t

/-- The block has no stuck state of its own making: from every state in the middle of an operation, some moves of the
clock and the sequencer alone end the operation, with nothing from the line or the transmitter (R236 (b)). -/
def Obligations.EveryOperationCanEnd : Prop :=
  ∀ s : State, s.Inv → s.busy = true →
    ∃ es t, (∀ e ∈ es, e = .sequencer ∨ ∃ n, e = .clock n) ∧ drive es s = .next t ∧ t.busy = false ∧
      t.done = true

/-- What the host may read. `STATUS` exactly while `DONE = 1`, as the codes of R210; during a command nothing, at its end
one of the codes R218 allows it. `RES16` only after `CRC16`, `RES8` only after `PARSE_RC` and `READ_COILS`, each only
with `STATUS = OK` (R22 to R25, R237). -/
def Obligations.ResultsAreValidOnlyAfterTheirCommands : Prop :=
  (∀ s : State, readStatus s = if s.done then some (statusCode s.status) else none) ∧
  [Status.ok, .invalidParameter, .txError, .rxTimeout, .tooShort, .crcMismatch, .headerMismatch,
   .timeout].map statusCode = [0x0#4, 0x1#4, 0x2#4, 0x3#4, 0x4#4, 0x5#4, 0x6#4, 0x7#4] ∧
  ∀ (s t : State) (i : Instr) (st : Bool) (ch : Word), s.ready →
    (s.script.all Event.lineSide) = true →
    i ∈ [Instr.crc16 st ch, .transmit st ch, .receive st ch, .exchange st ch, .buildWc st ch,
         .buildRc st ch, .validateWc st ch, .parseRc st ch, .writeCoil st ch, .readCoils st ch] →
    exec i s = .next t →
    (t.busy = true → readStatus t = none) ∧
    (t.busy = false → ∃ c ∈ allowedCodes i, readStatus t = some c) ∧
    (readRes16 t ≠ none ↔ i = .crc16 st ch) ∧
    (readRes8 t ≠ none ↔
      (t.busy = false ∧ t.status = .ok ∧ (i = .parseRc st ch ∨ i = .readCoils st ch)))

/-- The block command `READ_COILS` equals the host's own composition of `BUILD_RC`, `EXCHANGE`, `PARSE_RC` and
`wait(RETRY_DELAY)`, the bitmask included: after any number of attempts that fail, on the one that is accepted, or on
the last one that fails (R207). That writes longer than `T_TXBUDGET` go on while there is room, in both forms, is the
model's (log entry 20). -/
def Obligations.HostComposedReadAgrees : Prop :=
  ∀ (s : State) (st : Bool) (ch : Word) (gap : Nat) (failed : List (List Byte)) (last : List Byte), s.ready →
    gap ≤ s.cfg.tIdle → failed.length < s.cfg.maxRetries →
    (∀ a ∈ last :: failed, a.length ≤ s.cfg.rxCap) →
    let r := withCrc (readCoilsBody s.cfg)
    (∀ a ∈ failed, (parseReadCoils r a).status ≠ .ok) →
    ((parseReadCoils r last).status = .ok ∨ failed.length + 1 = s.cfg.maxRetries) →
    composedAgrees s gap (commandWord 0x5#4 st ch) (commandWord 0x7#4 st ch) (commandWord 0x9#4 st ch) failed last
end

