-- ==== Sys2Proof/Laws/State.lean ====
section
/-! SUPPORT. One lemma for each field of `State` under each named update of Machine/Ops.lean and
Machine/Frames.lean, so that no later proof unfolds a record update. -/

namespace Sys2Proof.Machine

/-! ### `record` -/

@[simp] theorem record_cfg (e : WireEvent) (s : State) : (record e s).cfg = s.cfg := rfl
@[simp] theorem record_de (e : WireEvent) (s : State) : (record e s).de = s.de := rfl
@[simp] theorem record_busy (e : WireEvent) (s : State) : (record e s).busy = s.busy := rfl
@[simp] theorem record_done (e : WireEvent) (s : State) : (record e s).done = s.done := rfl
@[simp] theorem record_status (e : WireEvent) (s : State) : (record e s).status = s.status := rfl
@[simp] theorem record_res16 (e : WireEvent) (s : State) : (record e s).res16 = s.res16 := rfl
@[simp] theorem record_res8 (e : WireEvent) (s : State) : (record e s).res8 = s.res8 := rfl
@[simp] theorem record_cmd (e : WireEvent) (s : State) : (record e s).cmd = s.cmd := rfl
@[simp] theorem record_tmo (e : WireEvent) (s : State) : (record e s).tmo = s.tmo := rfl
@[simp] theorem record_req (e : WireEvent) (s : State) : (record e s).req = s.req := rfl
@[simp] theorem record_rsp (e : WireEvent) (s : State) : (record e s).rsp = s.rsp := rfl
@[simp] theorem record_txq (e : WireEvent) (s : State) : (record e s).txq = s.txq := rfl
@[simp] theorem record_txsr (e : WireEvent) (s : State) : (record e s).txsr = s.txsr := rfl
@[simp] theorem record_txRoom (e : WireEvent) (s : State) : (record e s).txRoom = s.txRoom := rfl
@[simp] theorem record_rxq (e : WireEvent) (s : State) : (record e s).rxq = s.rxq := rfl
@[simp] theorem record_crc (e : WireEvent) (s : State) : (record e s).crc = s.crc := rfl
@[simp] theorem record_att (e : WireEvent) (s : State) : (record e s).att = s.att := rfl
@[simp] theorem record_phase (e : WireEvent) (s : State) : (record e s).phase = s.phase := rfl
@[simp] theorem record_timers (e : WireEvent) (s : State) : (record e s).timers = s.timers := rfl
@[simp] theorem record_now (e : WireEvent) (s : State) : (record e s).now = s.now := rfl
@[simp] theorem record_reqWritten (e : WireEvent) (s : State) : (record e s).reqWritten = s.reqWritten := rfl
@[simp] theorem record_rspWritten (e : WireEvent) (s : State) : (record e s).rspWritten = s.rspWritten := rfl
@[simp] theorem record_reqOver (e : WireEvent) (s : State) : (record e s).reqOver = s.reqOver := rfl
@[simp] theorem record_tmoIn (e : WireEvent) (s : State) : (record e s).tmoIn = s.tmoIn := rfl
@[simp] theorem record_dataIn (e : WireEvent) (s : State) : (record e s).dataIn = s.dataIn := rfl
@[simp] theorem record_trace (e : WireEvent) (s : State) : (record e s).trace = s.trace ++ [(e, s.now)] := rfl
@[simp] theorem record_draws (e : WireEvent) (s : State) : (record e s).draws = s.draws := rfl
@[simp] theorem record_script (e : WireEvent) (s : State) : (record e s).script = s.script := rfl

/-! ### `raiseDe` -/

@[simp] theorem raiseDe_cfg (s : State) : (raiseDe s).cfg = s.cfg := rfl
@[simp] theorem raiseDe_de (s : State) : (raiseDe s).de = true := rfl
@[simp] theorem raiseDe_busy (s : State) : (raiseDe s).busy = s.busy := rfl
@[simp] theorem raiseDe_done (s : State) : (raiseDe s).done = s.done := rfl
@[simp] theorem raiseDe_status (s : State) : (raiseDe s).status = s.status := rfl
@[simp] theorem raiseDe_res16 (s : State) : (raiseDe s).res16 = s.res16 := rfl
@[simp] theorem raiseDe_res8 (s : State) : (raiseDe s).res8 = s.res8 := rfl
@[simp] theorem raiseDe_cmd (s : State) : (raiseDe s).cmd = s.cmd := rfl
@[simp] theorem raiseDe_tmo (s : State) : (raiseDe s).tmo = s.tmo := rfl
@[simp] theorem raiseDe_req (s : State) : (raiseDe s).req = s.req := rfl
@[simp] theorem raiseDe_rsp (s : State) : (raiseDe s).rsp = s.rsp := rfl
@[simp] theorem raiseDe_txq (s : State) : (raiseDe s).txq = s.txq := rfl
@[simp] theorem raiseDe_txsr (s : State) : (raiseDe s).txsr = s.txsr := rfl
@[simp] theorem raiseDe_txRoom (s : State) : (raiseDe s).txRoom = s.txRoom := rfl
@[simp] theorem raiseDe_rxq (s : State) : (raiseDe s).rxq = s.rxq := rfl
@[simp] theorem raiseDe_crc (s : State) : (raiseDe s).crc = s.crc := rfl
@[simp] theorem raiseDe_att (s : State) : (raiseDe s).att = s.att := rfl
@[simp] theorem raiseDe_phase (s : State) : (raiseDe s).phase = s.phase := rfl
@[simp] theorem raiseDe_timers (s : State) : (raiseDe s).timers = s.timers := rfl
@[simp] theorem raiseDe_now (s : State) : (raiseDe s).now = s.now := rfl
@[simp] theorem raiseDe_reqWritten (s : State) : (raiseDe s).reqWritten = s.reqWritten := rfl
@[simp] theorem raiseDe_rspWritten (s : State) : (raiseDe s).rspWritten = s.rspWritten := rfl
@[simp] theorem raiseDe_reqOver (s : State) : (raiseDe s).reqOver = s.reqOver := rfl
@[simp] theorem raiseDe_tmoIn (s : State) : (raiseDe s).tmoIn = s.tmoIn := rfl
@[simp] theorem raiseDe_dataIn (s : State) : (raiseDe s).dataIn = s.dataIn := rfl
@[simp] theorem raiseDe_trace (s : State) : (raiseDe s).trace = s.trace ++ [(.deUp, s.now)] := rfl
@[simp] theorem raiseDe_draws (s : State) : (raiseDe s).draws = s.draws := rfl
@[simp] theorem raiseDe_script (s : State) : (raiseDe s).script = s.script := rfl

/-! ### `accept` -/

@[simp] theorem accept_cfg (w : CommandWord) (s : State) : (accept w s).cfg = s.cfg := rfl
@[simp] theorem accept_de (w : CommandWord) (s : State) : (accept w s).de = s.de := rfl
@[simp] theorem accept_busy (w : CommandWord) (s : State) : (accept w s).busy = true := rfl
@[simp] theorem accept_done (w : CommandWord) (s : State) : (accept w s).done = false := rfl
@[simp] theorem accept_status (w : CommandWord) (s : State) : (accept w s).status = s.status := rfl
@[simp] theorem accept_res16 (w : CommandWord) (s : State) : (accept w s).res16 = s.res16 := rfl
@[simp] theorem accept_res8 (w : CommandWord) (s : State) : (accept w s).res8 = s.res8 := rfl
@[simp] theorem accept_cmd (w : CommandWord) (s : State) : (accept w s).cmd = w := rfl
@[simp] theorem accept_tmo (w : CommandWord) (s : State) : (accept w s).tmo = s.tmoIn := rfl
@[simp] theorem accept_req (w : CommandWord) (s : State) : (accept w s).req = s.req := rfl
@[simp] theorem accept_rsp (w : CommandWord) (s : State) : (accept w s).rsp = s.rsp := rfl
@[simp] theorem accept_txq (w : CommandWord) (s : State) : (accept w s).txq = s.txq := rfl
@[simp] theorem accept_txsr (w : CommandWord) (s : State) : (accept w s).txsr = s.txsr := rfl
@[simp] theorem accept_txRoom (w : CommandWord) (s : State) : (accept w s).txRoom = s.txRoom := rfl
@[simp] theorem accept_rxq (w : CommandWord) (s : State) : (accept w s).rxq = s.rxq := rfl
@[simp] theorem accept_crc (w : CommandWord) (s : State) : (accept w s).crc = s.crc := rfl
@[simp] theorem accept_att (w : CommandWord) (s : State) : (accept w s).att = s.att := rfl
@[simp] theorem accept_phase (w : CommandWord) (s : State) : (accept w s).phase = s.phase := rfl
@[simp] theorem accept_timers (w : CommandWord) (s : State) : (accept w s).timers = {} := rfl
@[simp] theorem accept_now (w : CommandWord) (s : State) : (accept w s).now = s.now := rfl
@[simp] theorem accept_reqWritten (w : CommandWord) (s : State) : (accept w s).reqWritten = s.reqWritten := rfl
@[simp] theorem accept_rspWritten (w : CommandWord) (s : State) : (accept w s).rspWritten = s.rspWritten := rfl
@[simp] theorem accept_reqOver (w : CommandWord) (s : State) : (accept w s).reqOver = s.reqOver := rfl
@[simp] theorem accept_tmoIn (w : CommandWord) (s : State) : (accept w s).tmoIn = s.tmoIn := rfl
@[simp] theorem accept_dataIn (w : CommandWord) (s : State) : (accept w s).dataIn = s.dataIn := rfl
@[simp] theorem accept_trace (w : CommandWord) (s : State) : (accept w s).trace = s.trace := rfl
@[simp] theorem accept_draws (w : CommandWord) (s : State) : (accept w s).draws = s.draws := rfl
@[simp] theorem accept_script (w : CommandWord) (s : State) : (accept w s).script = s.script := rfl

/-! ### `enter` -/

@[simp] theorem enter_cfg (p : LinePhase) (s : State) : (enter p s).cfg = s.cfg := rfl
@[simp] theorem enter_de (p : LinePhase) (s : State) : (enter p s).de = s.de := rfl
@[simp] theorem enter_busy (p : LinePhase) (s : State) : (enter p s).busy = s.busy := rfl
@[simp] theorem enter_done (p : LinePhase) (s : State) : (enter p s).done = s.done := rfl
@[simp] theorem enter_status (p : LinePhase) (s : State) : (enter p s).status = s.status := rfl
@[simp] theorem enter_res16 (p : LinePhase) (s : State) : (enter p s).res16 = s.res16 := rfl
@[simp] theorem enter_res8 (p : LinePhase) (s : State) : (enter p s).res8 = s.res8 := rfl
@[simp] theorem enter_cmd (p : LinePhase) (s : State) : (enter p s).cmd = s.cmd := rfl
@[simp] theorem enter_tmo (p : LinePhase) (s : State) : (enter p s).tmo = s.tmo := rfl
@[simp] theorem enter_req (p : LinePhase) (s : State) : (enter p s).req = s.req := rfl
@[simp] theorem enter_rsp (p : LinePhase) (s : State) : (enter p s).rsp = s.rsp := rfl
@[simp] theorem enter_txq (p : LinePhase) (s : State) : (enter p s).txq = s.txq := rfl
@[simp] theorem enter_txsr (p : LinePhase) (s : State) : (enter p s).txsr = s.txsr := rfl
@[simp] theorem enter_txRoom (p : LinePhase) (s : State) : (enter p s).txRoom = s.txRoom := rfl
@[simp] theorem enter_rxq (p : LinePhase) (s : State) : (enter p s).rxq = s.rxq := rfl
@[simp] theorem enter_crc (p : LinePhase) (s : State) : (enter p s).crc = s.crc := rfl
@[simp] theorem enter_att (p : LinePhase) (s : State) : (enter p s).att = s.att := rfl
@[simp] theorem enter_phase (p : LinePhase) (s : State) : (enter p s).phase = (match s.phase with | .attempting _ => .attempting p | _ => .transport p) := rfl
@[simp] theorem enter_timers (p : LinePhase) (s : State) : (enter p s).timers = s.timers := rfl
@[simp] theorem enter_now (p : LinePhase) (s : State) : (enter p s).now = s.now := rfl
@[simp] theorem enter_reqWritten (p : LinePhase) (s : State) : (enter p s).reqWritten = s.reqWritten := rfl
@[simp] theorem enter_rspWritten (p : LinePhase) (s : State) : (enter p s).rspWritten = s.rspWritten := rfl
@[simp] theorem enter_reqOver (p : LinePhase) (s : State) : (enter p s).reqOver = s.reqOver := rfl
@[simp] theorem enter_tmoIn (p : LinePhase) (s : State) : (enter p s).tmoIn = s.tmoIn := rfl
@[simp] theorem enter_dataIn (p : LinePhase) (s : State) : (enter p s).dataIn = s.dataIn := rfl
@[simp] theorem enter_trace (p : LinePhase) (s : State) : (enter p s).trace = s.trace := rfl
@[simp] theorem enter_draws (p : LinePhase) (s : State) : (enter p s).draws = s.draws := rfl
@[simp] theorem enter_script (p : LinePhase) (s : State) : (enter p s).script = s.script := rfl

/-! ### `writeReq` -/

@[simp] theorem writeReq_cfg (b : List Byte) (s : State) : (writeReq b s).cfg = s.cfg := rfl
@[simp] theorem writeReq_de (b : List Byte) (s : State) : (writeReq b s).de = s.de := rfl
@[simp] theorem writeReq_busy (b : List Byte) (s : State) : (writeReq b s).busy = s.busy := rfl
@[simp] theorem writeReq_done (b : List Byte) (s : State) : (writeReq b s).done = s.done := rfl
@[simp] theorem writeReq_status (b : List Byte) (s : State) : (writeReq b s).status = s.status := rfl
@[simp] theorem writeReq_res16 (b : List Byte) (s : State) : (writeReq b s).res16 = s.res16 := rfl
@[simp] theorem writeReq_res8 (b : List Byte) (s : State) : (writeReq b s).res8 = s.res8 := rfl
@[simp] theorem writeReq_cmd (b : List Byte) (s : State) : (writeReq b s).cmd = s.cmd := rfl
@[simp] theorem writeReq_tmo (b : List Byte) (s : State) : (writeReq b s).tmo = s.tmo := rfl
@[simp] theorem writeReq_req (b : List Byte) (s : State) : (writeReq b s).req = b := rfl
@[simp] theorem writeReq_rsp (b : List Byte) (s : State) : (writeReq b s).rsp = s.rsp := rfl
@[simp] theorem writeReq_txq (b : List Byte) (s : State) : (writeReq b s).txq = s.txq := rfl
@[simp] theorem writeReq_txsr (b : List Byte) (s : State) : (writeReq b s).txsr = s.txsr := rfl
@[simp] theorem writeReq_txRoom (b : List Byte) (s : State) : (writeReq b s).txRoom = s.txRoom := rfl
@[simp] theorem writeReq_rxq (b : List Byte) (s : State) : (writeReq b s).rxq = s.rxq := rfl
@[simp] theorem writeReq_crc (b : List Byte) (s : State) : (writeReq b s).crc = s.crc := rfl
@[simp] theorem writeReq_att (b : List Byte) (s : State) : (writeReq b s).att = s.att := rfl
@[simp] theorem writeReq_phase (b : List Byte) (s : State) : (writeReq b s).phase = s.phase := rfl
@[simp] theorem writeReq_timers (b : List Byte) (s : State) : (writeReq b s).timers = s.timers := rfl
@[simp] theorem writeReq_now (b : List Byte) (s : State) : (writeReq b s).now = s.now := rfl
@[simp] theorem writeReq_reqWritten (b : List Byte) (s : State) : (writeReq b s).reqWritten = true := rfl
@[simp] theorem writeReq_rspWritten (b : List Byte) (s : State) : (writeReq b s).rspWritten = s.rspWritten := rfl
@[simp] theorem writeReq_reqOver (b : List Byte) (s : State) : (writeReq b s).reqOver = none := rfl
@[simp] theorem writeReq_tmoIn (b : List Byte) (s : State) : (writeReq b s).tmoIn = s.tmoIn := rfl
@[simp] theorem writeReq_dataIn (b : List Byte) (s : State) : (writeReq b s).dataIn = s.dataIn := rfl
@[simp] theorem writeReq_trace (b : List Byte) (s : State) : (writeReq b s).trace = s.trace := rfl
@[simp] theorem writeReq_draws (b : List Byte) (s : State) : (writeReq b s).draws = s.draws := rfl
@[simp] theorem writeReq_script (b : List Byte) (s : State) : (writeReq b s).script = s.script := rfl

/-! ### `writeRsp` -/

@[simp] theorem writeRsp_cfg (b : List Byte) (s : State) : (writeRsp b s).cfg = s.cfg := rfl
@[simp] theorem writeRsp_de (b : List Byte) (s : State) : (writeRsp b s).de = s.de := rfl
@[simp] theorem writeRsp_busy (b : List Byte) (s : State) : (writeRsp b s).busy = s.busy := rfl
@[simp] theorem writeRsp_done (b : List Byte) (s : State) : (writeRsp b s).done = s.done := rfl
@[simp] theorem writeRsp_status (b : List Byte) (s : State) : (writeRsp b s).status = s.status := rfl
@[simp] theorem writeRsp_res16 (b : List Byte) (s : State) : (writeRsp b s).res16 = s.res16 := rfl
@[simp] theorem writeRsp_res8 (b : List Byte) (s : State) : (writeRsp b s).res8 = s.res8 := rfl
@[simp] theorem writeRsp_cmd (b : List Byte) (s : State) : (writeRsp b s).cmd = s.cmd := rfl
@[simp] theorem writeRsp_tmo (b : List Byte) (s : State) : (writeRsp b s).tmo = s.tmo := rfl
@[simp] theorem writeRsp_req (b : List Byte) (s : State) : (writeRsp b s).req = s.req := rfl
@[simp] theorem writeRsp_rsp (b : List Byte) (s : State) : (writeRsp b s).rsp = b := rfl
@[simp] theorem writeRsp_txq (b : List Byte) (s : State) : (writeRsp b s).txq = s.txq := rfl
@[simp] theorem writeRsp_txsr (b : List Byte) (s : State) : (writeRsp b s).txsr = s.txsr := rfl
@[simp] theorem writeRsp_txRoom (b : List Byte) (s : State) : (writeRsp b s).txRoom = s.txRoom := rfl
@[simp] theorem writeRsp_rxq (b : List Byte) (s : State) : (writeRsp b s).rxq = s.rxq := rfl
@[simp] theorem writeRsp_crc (b : List Byte) (s : State) : (writeRsp b s).crc = s.crc := rfl
@[simp] theorem writeRsp_att (b : List Byte) (s : State) : (writeRsp b s).att = s.att := rfl
@[simp] theorem writeRsp_phase (b : List Byte) (s : State) : (writeRsp b s).phase = s.phase := rfl
@[simp] theorem writeRsp_timers (b : List Byte) (s : State) : (writeRsp b s).timers = s.timers := rfl
@[simp] theorem writeRsp_now (b : List Byte) (s : State) : (writeRsp b s).now = s.now := rfl
@[simp] theorem writeRsp_reqWritten (b : List Byte) (s : State) : (writeRsp b s).reqWritten = s.reqWritten := rfl
@[simp] theorem writeRsp_rspWritten (b : List Byte) (s : State) : (writeRsp b s).rspWritten = true := rfl
@[simp] theorem writeRsp_reqOver (b : List Byte) (s : State) : (writeRsp b s).reqOver = s.reqOver := rfl
@[simp] theorem writeRsp_tmoIn (b : List Byte) (s : State) : (writeRsp b s).tmoIn = s.tmoIn := rfl
@[simp] theorem writeRsp_dataIn (b : List Byte) (s : State) : (writeRsp b s).dataIn = s.dataIn := rfl
@[simp] theorem writeRsp_trace (b : List Byte) (s : State) : (writeRsp b s).trace = s.trace := rfl
@[simp] theorem writeRsp_draws (b : List Byte) (s : State) : (writeRsp b s).draws = s.draws := rfl
@[simp] theorem writeRsp_script (b : List Byte) (s : State) : (writeRsp b s).script = s.script := rfl

/-! ### `uartFlush` -/

@[simp] theorem uartFlush_cfg (s : State) : (uartFlush s).cfg = s.cfg := rfl
@[simp] theorem uartFlush_de (s : State) : (uartFlush s).de = s.de := rfl
@[simp] theorem uartFlush_busy (s : State) : (uartFlush s).busy = s.busy := rfl
@[simp] theorem uartFlush_done (s : State) : (uartFlush s).done = s.done := rfl
@[simp] theorem uartFlush_status (s : State) : (uartFlush s).status = s.status := rfl
@[simp] theorem uartFlush_res16 (s : State) : (uartFlush s).res16 = s.res16 := rfl
@[simp] theorem uartFlush_res8 (s : State) : (uartFlush s).res8 = s.res8 := rfl
@[simp] theorem uartFlush_cmd (s : State) : (uartFlush s).cmd = s.cmd := rfl
@[simp] theorem uartFlush_tmo (s : State) : (uartFlush s).tmo = s.tmo := rfl
@[simp] theorem uartFlush_req (s : State) : (uartFlush s).req = s.req := rfl
@[simp] theorem uartFlush_rsp (s : State) : (uartFlush s).rsp = s.rsp := rfl
@[simp] theorem uartFlush_txq (s : State) : (uartFlush s).txq = s.txq := rfl
@[simp] theorem uartFlush_txsr (s : State) : (uartFlush s).txsr = s.txsr := rfl
@[simp] theorem uartFlush_txRoom (s : State) : (uartFlush s).txRoom = s.txRoom := rfl
@[simp] theorem uartFlush_rxq (s : State) : (uartFlush s).rxq = [] := rfl
@[simp] theorem uartFlush_crc (s : State) : (uartFlush s).crc = s.crc := rfl
@[simp] theorem uartFlush_att (s : State) : (uartFlush s).att = s.att := rfl
@[simp] theorem uartFlush_phase (s : State) : (uartFlush s).phase = s.phase := rfl
@[simp] theorem uartFlush_timers (s : State) : (uartFlush s).timers = s.timers := rfl
@[simp] theorem uartFlush_now (s : State) : (uartFlush s).now = s.now := rfl
@[simp] theorem uartFlush_reqWritten (s : State) : (uartFlush s).reqWritten = s.reqWritten := rfl
@[simp] theorem uartFlush_rspWritten (s : State) : (uartFlush s).rspWritten = s.rspWritten := rfl
@[simp] theorem uartFlush_reqOver (s : State) : (uartFlush s).reqOver = s.reqOver := rfl
@[simp] theorem uartFlush_tmoIn (s : State) : (uartFlush s).tmoIn = s.tmoIn := rfl
@[simp] theorem uartFlush_dataIn (s : State) : (uartFlush s).dataIn = s.dataIn := rfl
@[simp] theorem uartFlush_trace (s : State) : (uartFlush s).trace = s.trace ++ [(.flush s.rxq.length, s.now)] := rfl
@[simp] theorem uartFlush_draws (s : State) : (uartFlush s).draws = s.draws := rfl
@[simp] theorem uartFlush_script (s : State) : (uartFlush s).script = s.script := rfl

/-! ### `uartWrite` -/

@[simp] theorem uartWrite_cfg (b : Byte) (s : State) : (uartWrite b s).cfg = s.cfg := rfl
@[simp] theorem uartWrite_de (b : Byte) (s : State) : (uartWrite b s).de = s.de := rfl
@[simp] theorem uartWrite_busy (b : Byte) (s : State) : (uartWrite b s).busy = s.busy := rfl
@[simp] theorem uartWrite_done (b : Byte) (s : State) : (uartWrite b s).done = s.done := rfl
@[simp] theorem uartWrite_status (b : Byte) (s : State) : (uartWrite b s).status = s.status := rfl
@[simp] theorem uartWrite_res16 (b : Byte) (s : State) : (uartWrite b s).res16 = s.res16 := rfl
@[simp] theorem uartWrite_res8 (b : Byte) (s : State) : (uartWrite b s).res8 = s.res8 := rfl
@[simp] theorem uartWrite_cmd (b : Byte) (s : State) : (uartWrite b s).cmd = s.cmd := rfl
@[simp] theorem uartWrite_tmo (b : Byte) (s : State) : (uartWrite b s).tmo = s.tmo := rfl
@[simp] theorem uartWrite_req (b : Byte) (s : State) : (uartWrite b s).req = s.req := rfl
@[simp] theorem uartWrite_rsp (b : Byte) (s : State) : (uartWrite b s).rsp = s.rsp := rfl
@[simp] theorem uartWrite_txq (b : Byte) (s : State) : (uartWrite b s).txq = s.txq ++ [b] := rfl
@[simp] theorem uartWrite_txsr (b : Byte) (s : State) : (uartWrite b s).txsr = s.txsr := rfl
@[simp] theorem uartWrite_txRoom (b : Byte) (s : State) : (uartWrite b s).txRoom = s.txRoom := rfl
@[simp] theorem uartWrite_rxq (b : Byte) (s : State) : (uartWrite b s).rxq = s.rxq := rfl
@[simp] theorem uartWrite_crc (b : Byte) (s : State) : (uartWrite b s).crc = s.crc := rfl
@[simp] theorem uartWrite_att (b : Byte) (s : State) : (uartWrite b s).att = s.att := rfl
@[simp] theorem uartWrite_phase (b : Byte) (s : State) : (uartWrite b s).phase = s.phase := rfl
@[simp] theorem uartWrite_timers (b : Byte) (s : State) : (uartWrite b s).timers = s.timers := rfl
@[simp] theorem uartWrite_now (b : Byte) (s : State) : (uartWrite b s).now = s.now := rfl
@[simp] theorem uartWrite_reqWritten (b : Byte) (s : State) : (uartWrite b s).reqWritten = s.reqWritten := rfl
@[simp] theorem uartWrite_rspWritten (b : Byte) (s : State) : (uartWrite b s).rspWritten = s.rspWritten := rfl
@[simp] theorem uartWrite_reqOver (b : Byte) (s : State) : (uartWrite b s).reqOver = s.reqOver := rfl
@[simp] theorem uartWrite_tmoIn (b : Byte) (s : State) : (uartWrite b s).tmoIn = s.tmoIn := rfl
@[simp] theorem uartWrite_dataIn (b : Byte) (s : State) : (uartWrite b s).dataIn = s.dataIn := rfl
@[simp] theorem uartWrite_trace (b : Byte) (s : State) : (uartWrite b s).trace = s.trace := rfl
@[simp] theorem uartWrite_draws (b : Byte) (s : State) : (uartWrite b s).draws = s.draws := rfl
@[simp] theorem uartWrite_script (b : Byte) (s : State) : (uartWrite b s).script = s.script := rfl

/-! ### `storeReceived` -/

@[simp] theorem storeReceived_cfg (b : Byte) (q : List Byte) (s : State) : (storeReceived b q s).cfg = s.cfg := rfl
@[simp] theorem storeReceived_de (b : Byte) (q : List Byte) (s : State) : (storeReceived b q s).de = s.de := rfl
@[simp] theorem storeReceived_busy (b : Byte) (q : List Byte) (s : State) : (storeReceived b q s).busy = s.busy := rfl
@[simp] theorem storeReceived_done (b : Byte) (q : List Byte) (s : State) : (storeReceived b q s).done = s.done := rfl
@[simp] theorem storeReceived_status (b : Byte) (q : List Byte) (s : State) : (storeReceived b q s).status = s.status := rfl
@[simp] theorem storeReceived_res16 (b : Byte) (q : List Byte) (s : State) : (storeReceived b q s).res16 = s.res16 := rfl
@[simp] theorem storeReceived_res8 (b : Byte) (q : List Byte) (s : State) : (storeReceived b q s).res8 = s.res8 := rfl
@[simp] theorem storeReceived_cmd (b : Byte) (q : List Byte) (s : State) : (storeReceived b q s).cmd = s.cmd := rfl
@[simp] theorem storeReceived_tmo (b : Byte) (q : List Byte) (s : State) : (storeReceived b q s).tmo = s.tmo := rfl
@[simp] theorem storeReceived_req (b : Byte) (q : List Byte) (s : State) : (storeReceived b q s).req = s.req := rfl
@[simp] theorem storeReceived_rsp (b : Byte) (q : List Byte) (s : State) : (storeReceived b q s).rsp = s.rsp ++ [b] := rfl
@[simp] theorem storeReceived_txq (b : Byte) (q : List Byte) (s : State) : (storeReceived b q s).txq = s.txq := rfl
@[simp] theorem storeReceived_txsr (b : Byte) (q : List Byte) (s : State) : (storeReceived b q s).txsr = s.txsr := rfl
@[simp] theorem storeReceived_txRoom (b : Byte) (q : List Byte) (s : State) : (storeReceived b q s).txRoom = s.txRoom := rfl
@[simp] theorem storeReceived_rxq (b : Byte) (q : List Byte) (s : State) : (storeReceived b q s).rxq = q := rfl
@[simp] theorem storeReceived_crc (b : Byte) (q : List Byte) (s : State) : (storeReceived b q s).crc = s.crc := rfl
@[simp] theorem storeReceived_att (b : Byte) (q : List Byte) (s : State) : (storeReceived b q s).att = s.att := rfl
@[simp] theorem storeReceived_phase (b : Byte) (q : List Byte) (s : State) : (storeReceived b q s).phase = s.phase := rfl
@[simp] theorem storeReceived_timers (b : Byte) (q : List Byte) (s : State) : (storeReceived b q s).timers = s.timers := rfl
@[simp] theorem storeReceived_now (b : Byte) (q : List Byte) (s : State) : (storeReceived b q s).now = s.now := rfl
@[simp] theorem storeReceived_reqWritten (b : Byte) (q : List Byte) (s : State) : (storeReceived b q s).reqWritten = s.reqWritten := rfl
@[simp] theorem storeReceived_rspWritten (b : Byte) (q : List Byte) (s : State) : (storeReceived b q s).rspWritten = true := rfl
@[simp] theorem storeReceived_reqOver (b : Byte) (q : List Byte) (s : State) : (storeReceived b q s).reqOver = s.reqOver := rfl
@[simp] theorem storeReceived_tmoIn (b : Byte) (q : List Byte) (s : State) : (storeReceived b q s).tmoIn = s.tmoIn := rfl
@[simp] theorem storeReceived_dataIn (b : Byte) (q : List Byte) (s : State) : (storeReceived b q s).dataIn = s.dataIn := rfl
@[simp] theorem storeReceived_trace (b : Byte) (q : List Byte) (s : State) : (storeReceived b q s).trace = s.trace ++ [(.rx b, s.now)] := rfl
@[simp] theorem storeReceived_draws (b : Byte) (q : List Byte) (s : State) : (storeReceived b q s).draws = s.draws := rfl
@[simp] theorem storeReceived_script (b : Byte) (q : List Byte) (s : State) : (storeReceived b q s).script = s.script := rfl

/-! ### `noteCrc` -/

@[simp] theorem noteCrc_cfg (v : Verdict) (s : State) : (noteCrc v s).cfg = s.cfg := rfl
@[simp] theorem noteCrc_de (v : Verdict) (s : State) : (noteCrc v s).de = s.de := rfl
@[simp] theorem noteCrc_busy (v : Verdict) (s : State) : (noteCrc v s).busy = s.busy := rfl
@[simp] theorem noteCrc_done (v : Verdict) (s : State) : (noteCrc v s).done = s.done := rfl
@[simp] theorem noteCrc_status (v : Verdict) (s : State) : (noteCrc v s).status = s.status := rfl
@[simp] theorem noteCrc_res16 (v : Verdict) (s : State) : (noteCrc v s).res16 = s.res16 := rfl
@[simp] theorem noteCrc_res8 (v : Verdict) (s : State) : (noteCrc v s).res8 = s.res8 := rfl
@[simp] theorem noteCrc_cmd (v : Verdict) (s : State) : (noteCrc v s).cmd = s.cmd := rfl
@[simp] theorem noteCrc_tmo (v : Verdict) (s : State) : (noteCrc v s).tmo = s.tmo := rfl
@[simp] theorem noteCrc_req (v : Verdict) (s : State) : (noteCrc v s).req = s.req := rfl
@[simp] theorem noteCrc_rsp (v : Verdict) (s : State) : (noteCrc v s).rsp = s.rsp := rfl
@[simp] theorem noteCrc_txq (v : Verdict) (s : State) : (noteCrc v s).txq = s.txq := rfl
@[simp] theorem noteCrc_txsr (v : Verdict) (s : State) : (noteCrc v s).txsr = s.txsr := rfl
@[simp] theorem noteCrc_txRoom (v : Verdict) (s : State) : (noteCrc v s).txRoom = s.txRoom := rfl
@[simp] theorem noteCrc_rxq (v : Verdict) (s : State) : (noteCrc v s).rxq = s.rxq := rfl
@[simp] theorem noteCrc_crc (v : Verdict) (s : State) : (noteCrc v s).crc = v.crc.getD s.crc := rfl
@[simp] theorem noteCrc_att (v : Verdict) (s : State) : (noteCrc v s).att = s.att := rfl
@[simp] theorem noteCrc_phase (v : Verdict) (s : State) : (noteCrc v s).phase = s.phase := rfl
@[simp] theorem noteCrc_timers (v : Verdict) (s : State) : (noteCrc v s).timers = s.timers := rfl
@[simp] theorem noteCrc_now (v : Verdict) (s : State) : (noteCrc v s).now = s.now := rfl
@[simp] theorem noteCrc_reqWritten (v : Verdict) (s : State) : (noteCrc v s).reqWritten = s.reqWritten := rfl
@[simp] theorem noteCrc_rspWritten (v : Verdict) (s : State) : (noteCrc v s).rspWritten = s.rspWritten := rfl
@[simp] theorem noteCrc_reqOver (v : Verdict) (s : State) : (noteCrc v s).reqOver = s.reqOver := rfl
@[simp] theorem noteCrc_tmoIn (v : Verdict) (s : State) : (noteCrc v s).tmoIn = s.tmoIn := rfl
@[simp] theorem noteCrc_dataIn (v : Verdict) (s : State) : (noteCrc v s).dataIn = s.dataIn := rfl
@[simp] theorem noteCrc_trace (v : Verdict) (s : State) : (noteCrc v s).trace = s.trace := rfl
@[simp] theorem noteCrc_draws (v : Verdict) (s : State) : (noteCrc v s).draws = s.draws := rfl
@[simp] theorem noteCrc_script (v : Verdict) (s : State) : (noteCrc v s).script = s.script := rfl

/-! ### `scrambleRes8` -/

@[simp] theorem scrambleRes8_cfg (s : State) : (scrambleRes8 s).cfg = s.cfg := rfl
@[simp] theorem scrambleRes8_de (s : State) : (scrambleRes8 s).de = s.de := rfl
@[simp] theorem scrambleRes8_busy (s : State) : (scrambleRes8 s).busy = s.busy := rfl
@[simp] theorem scrambleRes8_done (s : State) : (scrambleRes8 s).done = s.done := rfl
@[simp] theorem scrambleRes8_status (s : State) : (scrambleRes8 s).status = s.status := rfl
@[simp] theorem scrambleRes8_res16 (s : State) : (scrambleRes8 s).res16 = s.res16 := rfl
@[simp] theorem scrambleRes8_res8 (s : State) : (scrambleRes8 s).res8 = Config.freeRes8 s.draws := rfl
@[simp] theorem scrambleRes8_cmd (s : State) : (scrambleRes8 s).cmd = s.cmd := rfl
@[simp] theorem scrambleRes8_tmo (s : State) : (scrambleRes8 s).tmo = s.tmo := rfl
@[simp] theorem scrambleRes8_req (s : State) : (scrambleRes8 s).req = s.req := rfl
@[simp] theorem scrambleRes8_rsp (s : State) : (scrambleRes8 s).rsp = s.rsp := rfl
@[simp] theorem scrambleRes8_txq (s : State) : (scrambleRes8 s).txq = s.txq := rfl
@[simp] theorem scrambleRes8_txsr (s : State) : (scrambleRes8 s).txsr = s.txsr := rfl
@[simp] theorem scrambleRes8_txRoom (s : State) : (scrambleRes8 s).txRoom = s.txRoom := rfl
@[simp] theorem scrambleRes8_rxq (s : State) : (scrambleRes8 s).rxq = s.rxq := rfl
@[simp] theorem scrambleRes8_crc (s : State) : (scrambleRes8 s).crc = s.crc := rfl
@[simp] theorem scrambleRes8_att (s : State) : (scrambleRes8 s).att = s.att := rfl
@[simp] theorem scrambleRes8_phase (s : State) : (scrambleRes8 s).phase = s.phase := rfl
@[simp] theorem scrambleRes8_timers (s : State) : (scrambleRes8 s).timers = s.timers := rfl
@[simp] theorem scrambleRes8_now (s : State) : (scrambleRes8 s).now = s.now := rfl
@[simp] theorem scrambleRes8_reqWritten (s : State) : (scrambleRes8 s).reqWritten = s.reqWritten := rfl
@[simp] theorem scrambleRes8_rspWritten (s : State) : (scrambleRes8 s).rspWritten = s.rspWritten := rfl
@[simp] theorem scrambleRes8_reqOver (s : State) : (scrambleRes8 s).reqOver = s.reqOver := rfl
@[simp] theorem scrambleRes8_tmoIn (s : State) : (scrambleRes8 s).tmoIn = s.tmoIn := rfl
@[simp] theorem scrambleRes8_dataIn (s : State) : (scrambleRes8 s).dataIn = s.dataIn := rfl
@[simp] theorem scrambleRes8_trace (s : State) : (scrambleRes8 s).trace = s.trace := rfl
@[simp] theorem scrambleRes8_draws (s : State) : (scrambleRes8 s).draws = s.draws + 1 := rfl
@[simp] theorem scrambleRes8_script (s : State) : (scrambleRes8 s).script = s.script := rfl

/-! ### `buildRequest` -/

@[simp] theorem buildRequest_cfg (b : List Byte) (s : State) : (buildRequest b s).cfg = s.cfg := rfl
@[simp] theorem buildRequest_de (b : List Byte) (s : State) : (buildRequest b s).de = s.de := rfl
@[simp] theorem buildRequest_busy (b : List Byte) (s : State) : (buildRequest b s).busy = s.busy := rfl
@[simp] theorem buildRequest_done (b : List Byte) (s : State) : (buildRequest b s).done = s.done := rfl
@[simp] theorem buildRequest_status (b : List Byte) (s : State) : (buildRequest b s).status = s.status := rfl
@[simp] theorem buildRequest_res16 (b : List Byte) (s : State) : (buildRequest b s).res16 = s.res16 := rfl
@[simp] theorem buildRequest_res8 (b : List Byte) (s : State) : (buildRequest b s).res8 = s.res8 := rfl
@[simp] theorem buildRequest_cmd (b : List Byte) (s : State) : (buildRequest b s).cmd = s.cmd := rfl
@[simp] theorem buildRequest_tmo (b : List Byte) (s : State) : (buildRequest b s).tmo = s.tmo := rfl
@[simp] theorem buildRequest_req (b : List Byte) (s : State) : (buildRequest b s).req = withCrc b := rfl
@[simp] theorem buildRequest_rsp (b : List Byte) (s : State) : (buildRequest b s).rsp = s.rsp := rfl
@[simp] theorem buildRequest_txq (b : List Byte) (s : State) : (buildRequest b s).txq = s.txq := rfl
@[simp] theorem buildRequest_txsr (b : List Byte) (s : State) : (buildRequest b s).txsr = s.txsr := rfl
@[simp] theorem buildRequest_txRoom (b : List Byte) (s : State) : (buildRequest b s).txRoom = s.txRoom := rfl
@[simp] theorem buildRequest_rxq (b : List Byte) (s : State) : (buildRequest b s).rxq = s.rxq := rfl
@[simp] theorem buildRequest_crc (b : List Byte) (s : State) : (buildRequest b s).crc = crc16 b := rfl
@[simp] theorem buildRequest_att (b : List Byte) (s : State) : (buildRequest b s).att = s.att := rfl
@[simp] theorem buildRequest_phase (b : List Byte) (s : State) : (buildRequest b s).phase = s.phase := rfl
@[simp] theorem buildRequest_timers (b : List Byte) (s : State) : (buildRequest b s).timers = s.timers := rfl
@[simp] theorem buildRequest_now (b : List Byte) (s : State) : (buildRequest b s).now = s.now := rfl
@[simp] theorem buildRequest_reqWritten (b : List Byte) (s : State) : (buildRequest b s).reqWritten = true := rfl
@[simp] theorem buildRequest_rspWritten (b : List Byte) (s : State) : (buildRequest b s).rspWritten = s.rspWritten := rfl
@[simp] theorem buildRequest_reqOver (b : List Byte) (s : State) : (buildRequest b s).reqOver = none := rfl
@[simp] theorem buildRequest_tmoIn (b : List Byte) (s : State) : (buildRequest b s).tmoIn = s.tmoIn := rfl
@[simp] theorem buildRequest_dataIn (b : List Byte) (s : State) : (buildRequest b s).dataIn = s.dataIn := rfl
@[simp] theorem buildRequest_trace (b : List Byte) (s : State) : (buildRequest b s).trace = s.trace := rfl
@[simp] theorem buildRequest_draws (b : List Byte) (s : State) : (buildRequest b s).draws = s.draws := rfl
@[simp] theorem buildRequest_script (b : List Byte) (s : State) : (buildRequest b s).script = s.script := rfl

/-! ### `rejectCommand` -/

@[simp] theorem rejectCommand_cfg (s : State) : (rejectCommand s).cfg = s.cfg := rfl
@[simp] theorem rejectCommand_de (s : State) : (rejectCommand s).de = s.de := rfl
@[simp] theorem rejectCommand_busy (s : State) : (rejectCommand s).busy = s.busy := rfl
@[simp] theorem rejectCommand_done (s : State) : (rejectCommand s).done = true := rfl
@[simp] theorem rejectCommand_status (s : State) : (rejectCommand s).status = .invalidParameter := rfl
@[simp] theorem rejectCommand_res16 (s : State) : (rejectCommand s).res16 = s.res16 := rfl
@[simp] theorem rejectCommand_res8 (s : State) : (rejectCommand s).res8 = s.res8 := rfl
@[simp] theorem rejectCommand_cmd (s : State) : (rejectCommand s).cmd = s.cmd := rfl
@[simp] theorem rejectCommand_tmo (s : State) : (rejectCommand s).tmo = s.tmo := rfl
@[simp] theorem rejectCommand_req (s : State) : (rejectCommand s).req = s.req := rfl
@[simp] theorem rejectCommand_rsp (s : State) : (rejectCommand s).rsp = s.rsp := rfl
@[simp] theorem rejectCommand_txq (s : State) : (rejectCommand s).txq = s.txq := rfl
@[simp] theorem rejectCommand_txsr (s : State) : (rejectCommand s).txsr = s.txsr := rfl
@[simp] theorem rejectCommand_txRoom (s : State) : (rejectCommand s).txRoom = s.txRoom := rfl
@[simp] theorem rejectCommand_rxq (s : State) : (rejectCommand s).rxq = s.rxq := rfl
@[simp] theorem rejectCommand_crc (s : State) : (rejectCommand s).crc = s.crc := rfl
@[simp] theorem rejectCommand_att (s : State) : (rejectCommand s).att = s.att := rfl
@[simp] theorem rejectCommand_phase (s : State) : (rejectCommand s).phase = s.phase := rfl
@[simp] theorem rejectCommand_timers (s : State) : (rejectCommand s).timers = s.timers := rfl
@[simp] theorem rejectCommand_now (s : State) : (rejectCommand s).now = s.now := rfl
@[simp] theorem rejectCommand_reqWritten (s : State) : (rejectCommand s).reqWritten = s.reqWritten := rfl
@[simp] theorem rejectCommand_rspWritten (s : State) : (rejectCommand s).rspWritten = s.rspWritten := rfl
@[simp] theorem rejectCommand_reqOver (s : State) : (rejectCommand s).reqOver = s.reqOver := rfl
@[simp] theorem rejectCommand_tmoIn (s : State) : (rejectCommand s).tmoIn = s.tmoIn := rfl
@[simp] theorem rejectCommand_dataIn (s : State) : (rejectCommand s).dataIn = s.dataIn := rfl
@[simp] theorem rejectCommand_trace (s : State) : (rejectCommand s).trace = s.trace := rfl
@[simp] theorem rejectCommand_draws (s : State) : (rejectCommand s).draws = s.draws := rfl
@[simp] theorem rejectCommand_script (s : State) : (rejectCommand s).script = s.script := rfl

/-! ### `lowerDe` -/

@[simp] theorem lowerDe_cfg (s : State) : (lowerDe s).cfg = s.cfg := by
  cases h : s.de <;> simp [lowerDe, h]
@[simp] theorem lowerDe_de (s : State) : (lowerDe s).de = false := by
  cases h : s.de <;> simp [lowerDe, h]
@[simp] theorem lowerDe_busy (s : State) : (lowerDe s).busy = s.busy := by
  cases h : s.de <;> simp [lowerDe, h]
@[simp] theorem lowerDe_done (s : State) : (lowerDe s).done = s.done := by
  cases h : s.de <;> simp [lowerDe, h]
@[simp] theorem lowerDe_status (s : State) : (lowerDe s).status = s.status := by
  cases h : s.de <;> simp [lowerDe, h]
@[simp] theorem lowerDe_res16 (s : State) : (lowerDe s).res16 = s.res16 := by
  cases h : s.de <;> simp [lowerDe, h]
@[simp] theorem lowerDe_res8 (s : State) : (lowerDe s).res8 = s.res8 := by
  cases h : s.de <;> simp [lowerDe, h]
@[simp] theorem lowerDe_cmd (s : State) : (lowerDe s).cmd = s.cmd := by
  cases h : s.de <;> simp [lowerDe, h]
@[simp] theorem lowerDe_tmo (s : State) : (lowerDe s).tmo = s.tmo := by
  cases h : s.de <;> simp [lowerDe, h]
@[simp] theorem lowerDe_req (s : State) : (lowerDe s).req = s.req := by
  cases h : s.de <;> simp [lowerDe, h]
@[simp] theorem lowerDe_rsp (s : State) : (lowerDe s).rsp = s.rsp := by
  cases h : s.de <;> simp [lowerDe, h]
@[simp] theorem lowerDe_txq (s : State) : (lowerDe s).txq = s.txq := by
  cases h : s.de <;> simp [lowerDe, h]
@[simp] theorem lowerDe_txsr (s : State) : (lowerDe s).txsr = s.txsr := by
  cases h : s.de <;> simp [lowerDe, h]
@[simp] theorem lowerDe_txRoom (s : State) : (lowerDe s).txRoom = s.txRoom := by
  cases h : s.de <;> simp [lowerDe, h]
@[simp] theorem lowerDe_rxq (s : State) : (lowerDe s).rxq = s.rxq := by
  cases h : s.de <;> simp [lowerDe, h]
@[simp] theorem lowerDe_crc (s : State) : (lowerDe s).crc = s.crc := by
  cases h : s.de <;> simp [lowerDe, h]
@[simp] theorem lowerDe_att (s : State) : (lowerDe s).att = s.att := by
  cases h : s.de <;> simp [lowerDe, h]
@[simp] theorem lowerDe_phase (s : State) : (lowerDe s).phase = s.phase := by
  cases h : s.de <;> simp [lowerDe, h]
@[simp] theorem lowerDe_timers (s : State) : (lowerDe s).timers = s.timers := by
  cases h : s.de <;> simp [lowerDe, h]
@[simp] theorem lowerDe_now (s : State) : (lowerDe s).now = s.now := by
  cases h : s.de <;> simp [lowerDe, h]
@[simp] theorem lowerDe_reqWritten (s : State) : (lowerDe s).reqWritten = s.reqWritten := by
  cases h : s.de <;> simp [lowerDe, h]
@[simp] theorem lowerDe_rspWritten (s : State) : (lowerDe s).rspWritten = s.rspWritten := by
  cases h : s.de <;> simp [lowerDe, h]
@[simp] theorem lowerDe_reqOver (s : State) : (lowerDe s).reqOver = s.reqOver := by
  cases h : s.de <;> simp [lowerDe, h]
@[simp] theorem lowerDe_tmoIn (s : State) : (lowerDe s).tmoIn = s.tmoIn := by
  cases h : s.de <;> simp [lowerDe, h]
@[simp] theorem lowerDe_dataIn (s : State) : (lowerDe s).dataIn = s.dataIn := by
  cases h : s.de <;> simp [lowerDe, h]
@[simp] theorem lowerDe_trace (s : State) :
    (lowerDe s).trace = s.trace ++ (if s.de then [(.deDown, s.now)] else []) := by
  cases h : s.de <;> simp [lowerDe, h]
@[simp] theorem lowerDe_draws (s : State) : (lowerDe s).draws = s.draws := by
  cases h : s.de <;> simp [lowerDe, h]
@[simp] theorem lowerDe_script (s : State) : (lowerDe s).script = s.script := by
  cases h : s.de <;> simp [lowerDe, h]

/-! ### `finish` -/

@[simp] theorem finish_cfg (st : Status) (s : State) :
    (finish st s).cfg = s.cfg := by simp [finish]
@[simp] theorem finish_de (st : Status) (s : State) :
    (finish st s).de = false := by simp [finish]
@[simp] theorem finish_busy (st : Status) (s : State) :
    (finish st s).busy = false := by simp [finish]
@[simp] theorem finish_done (st : Status) (s : State) :
    (finish st s).done = true := by simp [finish]
@[simp] theorem finish_status (st : Status) (s : State) :
    (finish st s).status = st := by simp [finish]
@[simp] theorem finish_res16 (st : Status) (s : State) :
    (finish st s).res16 = s.res16 := by simp [finish]
@[simp] theorem finish_res8 (st : Status) (s : State) :
    (finish st s).res8 = s.res8 := by simp [finish]
@[simp] theorem finish_cmd (st : Status) (s : State) :
    (finish st s).cmd = s.cmd := by simp [finish]
@[simp] theorem finish_tmo (st : Status) (s : State) :
    (finish st s).tmo = s.tmo := by simp [finish]
@[simp] theorem finish_req (st : Status) (s : State) :
    (finish st s).req = s.req := by simp [finish]
@[simp] theorem finish_rsp (st : Status) (s : State) :
    (finish st s).rsp = s.rsp := by simp [finish]
@[simp] theorem finish_txq (st : Status) (s : State) :
    (finish st s).txq = s.txq := by simp [finish]
@[simp] theorem finish_txsr (st : Status) (s : State) :
    (finish st s).txsr = s.txsr := by simp [finish]
@[simp] theorem finish_txRoom (st : Status) (s : State) :
    (finish st s).txRoom = s.txRoom := by simp [finish]
@[simp] theorem finish_rxq (st : Status) (s : State) :
    (finish st s).rxq = s.rxq := by simp [finish]
@[simp] theorem finish_crc (st : Status) (s : State) :
    (finish st s).crc = s.crc := by simp [finish]
@[simp] theorem finish_att (st : Status) (s : State) :
    (finish st s).att = s.att := by simp [finish]
@[simp] theorem finish_phase (st : Status) (s : State) :
    (finish st s).phase = .idle := by simp [finish]
@[simp] theorem finish_timers (st : Status) (s : State) :
    (finish st s).timers = {} := by simp [finish]
@[simp] theorem finish_now (st : Status) (s : State) :
    (finish st s).now = s.now := by simp [finish]
@[simp] theorem finish_reqWritten (st : Status) (s : State) :
    (finish st s).reqWritten = s.reqWritten := by simp [finish]
@[simp] theorem finish_rspWritten (st : Status) (s : State) :
    (finish st s).rspWritten = s.rspWritten := by simp [finish]
@[simp] theorem finish_reqOver (st : Status) (s : State) :
    (finish st s).reqOver = s.reqOver := by simp [finish]
@[simp] theorem finish_tmoIn (st : Status) (s : State) :
    (finish st s).tmoIn = s.tmoIn := by simp [finish]
@[simp] theorem finish_dataIn (st : Status) (s : State) :
    (finish st s).dataIn = s.dataIn := by simp [finish]
@[simp] theorem finish_trace (st : Status) (s : State) :
    (finish st s).trace = s.trace ++ (if s.de then [(.deDown, s.now)] else []) := by simp [finish]
@[simp] theorem finish_draws (st : Status) (s : State) :
    (finish st s).draws = s.draws := by simp [finish]
@[simp] theorem finish_script (st : Status) (s : State) :
    (finish st s).script = s.script := by simp [finish]

/-! ### `uartLoad`, `uartShift`, `deliver`: what they leave -/

@[simp] theorem uartLoad_cfg (s : State) : (uartLoad s).cfg = s.cfg := by
  unfold uartLoad; split <;> rfl
@[simp] theorem uartLoad_de (s : State) : (uartLoad s).de = s.de := by
  unfold uartLoad; split <;> rfl
@[simp] theorem uartLoad_busy (s : State) : (uartLoad s).busy = s.busy := by
  unfold uartLoad; split <;> rfl
@[simp] theorem uartLoad_done (s : State) : (uartLoad s).done = s.done := by
  unfold uartLoad; split <;> rfl
@[simp] theorem uartLoad_status (s : State) : (uartLoad s).status = s.status := by
  unfold uartLoad; split <;> rfl
@[simp] theorem uartLoad_res16 (s : State) : (uartLoad s).res16 = s.res16 := by
  unfold uartLoad; split <;> rfl
@[simp] theorem uartLoad_res8 (s : State) : (uartLoad s).res8 = s.res8 := by
  unfold uartLoad; split <;> rfl
@[simp] theorem uartLoad_cmd (s : State) : (uartLoad s).cmd = s.cmd := by
  unfold uartLoad; split <;> rfl
@[simp] theorem uartLoad_tmo (s : State) : (uartLoad s).tmo = s.tmo := by
  unfold uartLoad; split <;> rfl
@[simp] theorem uartLoad_req (s : State) : (uartLoad s).req = s.req := by
  unfold uartLoad; split <;> rfl
@[simp] theorem uartLoad_rsp (s : State) : (uartLoad s).rsp = s.rsp := by
  unfold uartLoad; split <;> rfl
@[simp] theorem uartLoad_txRoom (s : State) : (uartLoad s).txRoom = s.txRoom := by
  unfold uartLoad; split <;> rfl
@[simp] theorem uartLoad_rxq (s : State) : (uartLoad s).rxq = s.rxq := by
  unfold uartLoad; split <;> rfl
@[simp] theorem uartLoad_crc (s : State) : (uartLoad s).crc = s.crc := by
  unfold uartLoad; split <;> rfl
@[simp] theorem uartLoad_att (s : State) : (uartLoad s).att = s.att := by
  unfold uartLoad; split <;> rfl
@[simp] theorem uartLoad_phase (s : State) : (uartLoad s).phase = s.phase := by
  unfold uartLoad; split <;> rfl
@[simp] theorem uartLoad_timers (s : State) : (uartLoad s).timers = s.timers := by
  unfold uartLoad; split <;> rfl
@[simp] theorem uartLoad_now (s : State) : (uartLoad s).now = s.now := by
  unfold uartLoad; split <;> rfl
@[simp] theorem uartLoad_reqWritten (s : State) : (uartLoad s).reqWritten = s.reqWritten := by
  unfold uartLoad; split <;> rfl
@[simp] theorem uartLoad_rspWritten (s : State) : (uartLoad s).rspWritten = s.rspWritten := by
  unfold uartLoad; split <;> rfl
@[simp] theorem uartLoad_reqOver (s : State) : (uartLoad s).reqOver = s.reqOver := by
  unfold uartLoad; split <;> rfl
@[simp] theorem uartLoad_tmoIn (s : State) : (uartLoad s).tmoIn = s.tmoIn := by
  unfold uartLoad; split <;> rfl
@[simp] theorem uartLoad_dataIn (s : State) : (uartLoad s).dataIn = s.dataIn := by
  unfold uartLoad; split <;> rfl
@[simp] theorem uartLoad_trace (s : State) : (uartLoad s).trace = s.trace := by
  unfold uartLoad; split <;> rfl
@[simp] theorem uartLoad_draws (s : State) : (uartLoad s).draws = s.draws := by
  unfold uartLoad; split <;> rfl
@[simp] theorem uartLoad_script (s : State) : (uartLoad s).script = s.script := by
  unfold uartLoad; split <;> rfl
@[simp] theorem uartShift_cfg (s : State) : (uartShift s).cfg = s.cfg := by
  unfold uartShift; split <;> rfl
@[simp] theorem uartShift_de (s : State) : (uartShift s).de = s.de := by
  unfold uartShift; split <;> rfl
@[simp] theorem uartShift_busy (s : State) : (uartShift s).busy = s.busy := by
  unfold uartShift; split <;> rfl
@[simp] theorem uartShift_done (s : State) : (uartShift s).done = s.done := by
  unfold uartShift; split <;> rfl
@[simp] theorem uartShift_status (s : State) : (uartShift s).status = s.status := by
  unfold uartShift; split <;> rfl
@[simp] theorem uartShift_res16 (s : State) : (uartShift s).res16 = s.res16 := by
  unfold uartShift; split <;> rfl
@[simp] theorem uartShift_res8 (s : State) : (uartShift s).res8 = s.res8 := by
  unfold uartShift; split <;> rfl
@[simp] theorem uartShift_cmd (s : State) : (uartShift s).cmd = s.cmd := by
  unfold uartShift; split <;> rfl
@[simp] theorem uartShift_tmo (s : State) : (uartShift s).tmo = s.tmo := by
  unfold uartShift; split <;> rfl
@[simp] theorem uartShift_req (s : State) : (uartShift s).req = s.req := by
  unfold uartShift; split <;> rfl
@[simp] theorem uartShift_rsp (s : State) : (uartShift s).rsp = s.rsp := by
  unfold uartShift; split <;> rfl
@[simp] theorem uartShift_txq (s : State) : (uartShift s).txq = s.txq := by
  unfold uartShift; split <;> rfl
@[simp] theorem uartShift_txRoom (s : State) : (uartShift s).txRoom = s.txRoom := by
  unfold uartShift; split <;> rfl
@[simp] theorem uartShift_rxq (s : State) : (uartShift s).rxq = s.rxq := by
  unfold uartShift; split <;> rfl
@[simp] theorem uartShift_crc (s : State) : (uartShift s).crc = s.crc := by
  unfold uartShift; split <;> rfl
@[simp] theorem uartShift_att (s : State) : (uartShift s).att = s.att := by
  unfold uartShift; split <;> rfl
@[simp] theorem uartShift_phase (s : State) : (uartShift s).phase = s.phase := by
  unfold uartShift; split <;> rfl
@[simp] theorem uartShift_now (s : State) : (uartShift s).now = s.now := by
  unfold uartShift; split <;> rfl
@[simp] theorem uartShift_reqWritten (s : State) : (uartShift s).reqWritten = s.reqWritten := by
  unfold uartShift; split <;> rfl
@[simp] theorem uartShift_rspWritten (s : State) : (uartShift s).rspWritten = s.rspWritten := by
  unfold uartShift; split <;> rfl
@[simp] theorem uartShift_reqOver (s : State) : (uartShift s).reqOver = s.reqOver := by
  unfold uartShift; split <;> rfl
@[simp] theorem uartShift_tmoIn (s : State) : (uartShift s).tmoIn = s.tmoIn := by
  unfold uartShift; split <;> rfl
@[simp] theorem uartShift_dataIn (s : State) : (uartShift s).dataIn = s.dataIn := by
  unfold uartShift; split <;> rfl
@[simp] theorem uartShift_draws (s : State) : (uartShift s).draws = s.draws := by
  unfold uartShift; split <;> rfl
@[simp] theorem uartShift_script (s : State) : (uartShift s).script = s.script := by
  unfold uartShift; split <;> rfl
@[simp] theorem deliver_cfg (b : List Byte) (s : State) : (deliver b s).cfg = s.cfg := by
  unfold deliver; split <;> rfl
@[simp] theorem deliver_de (b : List Byte) (s : State) : (deliver b s).de = s.de := by
  unfold deliver; split <;> rfl
@[simp] theorem deliver_busy (b : List Byte) (s : State) : (deliver b s).busy = s.busy := by
  unfold deliver; split <;> rfl
@[simp] theorem deliver_done (b : List Byte) (s : State) : (deliver b s).done = s.done := by
  unfold deliver; split <;> rfl
@[simp] theorem deliver_status (b : List Byte) (s : State) : (deliver b s).status = s.status := by
  unfold deliver; split <;> rfl
@[simp] theorem deliver_res16 (b : List Byte) (s : State) : (deliver b s).res16 = s.res16 := by
  unfold deliver; split <;> rfl
@[simp] theorem deliver_res8 (b : List Byte) (s : State) : (deliver b s).res8 = s.res8 := by
  unfold deliver; split <;> rfl
@[simp] theorem deliver_cmd (b : List Byte) (s : State) : (deliver b s).cmd = s.cmd := by
  unfold deliver; split <;> rfl
@[simp] theorem deliver_tmo (b : List Byte) (s : State) : (deliver b s).tmo = s.tmo := by
  unfold deliver; split <;> rfl
@[simp] theorem deliver_req (b : List Byte) (s : State) : (deliver b s).req = s.req := by
  unfold deliver; split <;> rfl
@[simp] theorem deliver_rsp (b : List Byte) (s : State) : (deliver b s).rsp = s.rsp := by
  unfold deliver; split <;> rfl
@[simp] theorem deliver_txq (b : List Byte) (s : State) : (deliver b s).txq = s.txq := by
  unfold deliver; split <;> rfl
@[simp] theorem deliver_txsr (b : List Byte) (s : State) : (deliver b s).txsr = s.txsr := by
  unfold deliver; split <;> rfl
@[simp] theorem deliver_txRoom (b : List Byte) (s : State) : (deliver b s).txRoom = s.txRoom := by
  unfold deliver; split <;> rfl
@[simp] theorem deliver_rxq (b : List Byte) (s : State) :
    (deliver b s).rxq = if s.de then s.rxq else s.rxq ++ b := by
  unfold deliver; split <;> rfl
@[simp] theorem deliver_crc (b : List Byte) (s : State) : (deliver b s).crc = s.crc := by
  unfold deliver; split <;> rfl
@[simp] theorem deliver_att (b : List Byte) (s : State) : (deliver b s).att = s.att := by
  unfold deliver; split <;> rfl
@[simp] theorem deliver_phase (b : List Byte) (s : State) : (deliver b s).phase = s.phase := by
  unfold deliver; split <;> rfl
@[simp] theorem deliver_timers (b : List Byte) (s : State) : (deliver b s).timers = s.timers := by
  unfold deliver; split <;> rfl
@[simp] theorem deliver_now (b : List Byte) (s : State) : (deliver b s).now = s.now := by
  unfold deliver; split <;> rfl
@[simp] theorem deliver_reqWritten (b : List Byte) (s : State) : (deliver b s).reqWritten = s.reqWritten := by
  unfold deliver; split <;> rfl
@[simp] theorem deliver_rspWritten (b : List Byte) (s : State) : (deliver b s).rspWritten = s.rspWritten := by
  unfold deliver; split <;> rfl
@[simp] theorem deliver_reqOver (b : List Byte) (s : State) : (deliver b s).reqOver = s.reqOver := by
  unfold deliver; split <;> rfl
@[simp] theorem deliver_tmoIn (b : List Byte) (s : State) : (deliver b s).tmoIn = s.tmoIn := by
  unfold deliver; split <;> rfl
@[simp] theorem deliver_dataIn (b : List Byte) (s : State) : (deliver b s).dataIn = s.dataIn := by
  unfold deliver; split <;> rfl
@[simp] theorem deliver_trace (b : List Byte) (s : State) : (deliver b s).trace = s.trace := by
  unfold deliver; split <;> rfl
@[simp] theorem deliver_draws (b : List Byte) (s : State) : (deliver b s).draws = s.draws := by
  unfold deliver; split <;> rfl
@[simp] theorem deliver_script (b : List Byte) (s : State) : (deliver b s).script = s.script := by
  unfold deliver; split <;> rfl

end Sys2Proof.Machine
end

