-- ==== Sys2Proof/Laws/Crc.lean ====
section
/-! SUPPORT. The small laws of the CRC engine: how the accumulator goes on from byte to byte (40_crc_engine.md R108
(a)), and that a round is linear over exclusive-or. -/

namespace Sys2Proof.Machine

@[simp] theorem crcFrom_nil (acc : Word) : crcFrom acc [] = acc := rfl

@[simp] theorem crcFrom_cons (acc : Word) (b : Byte) (bs : List Byte) :
    crcFrom acc (b :: bs) = crcFrom (crcByte acc b) bs := rfl

/-- Streaming: the engine needs no look-ahead (R108 (a)). -/
theorem crcFrom_append (acc : Word) (a b : List Byte) :
    crcFrom acc (a ++ b) = crcFrom (crcFrom acc a) b := List.foldl_append ..

/-- The same, for `crc16` itself. -/
theorem crc16_append (a b : List Byte) : crc16 (a ++ b) = crcFrom (crc16 a) b := crcFrom_append ..

/-- A round is linear over exclusive-or. -/
theorem crcRound_xor (a b : Word) : crcRound (a ^^^ b) = crcRound a ^^^ crcRound b := by
  unfold crcRound
  rw [BitVec.getLsbD_xor, BitVec.ushiftRight_xor_distrib]
  generalize 0xA001#16 = p
  cases a.getLsbD 0 <;> cases b.getLsbD 0 <;> simp <;> ext i hi <;> simp [Bool.xor_comm, Bool.xor_left_comm]

/-- So are any number of rounds. -/
theorem crcRounds_xor (n : Nat) (a b : Word) :
    crcRounds n (a ^^^ b) = crcRounds n a ^^^ crcRounds n b := by
  induction n generalizing a b with
  | zero => rfl
  | succ n ih => simp only [crcRounds, crcRound_xor, ih]

end Sys2Proof.Machine
end

