-- ==== Sys2Proof/Laws/Decode.lean ====
section
/-! SUPPORT. The fields of an encoded command word are what was put there (30_encoding.md R71), and the bytes of a table
word are as many as the row has. -/

namespace Sys2Proof

theorem commandWord_field (op : BitVec 4) (st : Bool) (ch : Word) :
    opField (commandWord op st ch) = op ∧ reservedField (commandWord op st ch) = 0#3 ∧
    stateField (commandWord op st ch) = st ∧ chanField (commandWord op st ch) = ch := by
  refine ⟨?_, ?_, ?_, ?_⟩
  · ext i hi
    simp [opField, commandWord]
    grind
  · ext i hi
    simp [reservedField, commandWord]
    grind
  · change (op ++ 0#3 ++ BitVec.ofBool st ++ ch).getLsbD 16 = st
    rw [BitVec.getLsbD_append, BitVec.getLsbD_append]
    simp
  · ext i hi
    simp [chanField, commandWord]
    grind

@[simp] theorem opField_commandWord (op : BitVec 4) (st : Bool) (ch : Word) :
    opField (commandWord op st ch) = op := (commandWord_field op st ch).1

@[simp] theorem reservedField_commandWord (op : BitVec 4) (st : Bool) (ch : Word) :
    reservedField (commandWord op st ch) = 0#3 := (commandWord_field op st ch).2.1

@[simp] theorem stateField_commandWord (op : BitVec 4) (st : Bool) (ch : Word) :
    stateField (commandWord op st ch) = st := (commandWord_field op st ch).2.2.1

@[simp] theorem chanField_commandWord (op : BitVec 4) (st : Bool) (ch : Word) :
    chanField (commandWord op st ch) = ch := (commandWord_field op st ch).2.2.2

@[simp] theorem length_bytesOf (n w : Nat) : (bytesOf n w).length = n := by simp [bytesOf]

end Sys2Proof
end

