-- ==== Sys2Proof/Laws/Phases.lean ====
section
/-! SUPPORT. What each shared operation of Machine/Phases.lean can do, said once: how a transport operation ends, how an
attempt ends, what no phase of the sequencer touches. -/

namespace Sys2Proof.Machine

/-! ### The fields that no step of the sequencer touches -/

/-- The part of the state that belongs to the configuration, the clock, the ports and the script, with `CMD`, `TMO`,
`RES16` and the transmitter's room: no phase of the sequencer writes any of it. -/
structure SameSurroundings (s t : State) : Prop where
  cfg : t.cfg = s.cfg
  now : t.now = s.now
  cmd : t.cmd = s.cmd
  tmo : t.tmo = s.tmo
  res16 : t.res16 = s.res16
  txRoom : t.txRoom = s.txRoom
  tmoIn : t.tmoIn = s.tmoIn
  dataIn : t.dataIn = s.dataIn
  script : t.script = s.script

theorem SameSurroundings.rfl' (s : State) : SameSurroundings s s :=
  ⟨rfl, rfl, rfl, rfl, rfl, rfl, rfl, rfl, rfl⟩

theorem SameSurroundings.trans {s t u : State} (a : SameSurroundings s t) (b : SameSurroundings t u) :
    SameSurroundings s u :=
  ⟨b.cfg.trans a.cfg, b.now.trans a.now, b.cmd.trans a.cmd, b.tmo.trans a.tmo, b.res16.trans a.res16,
   b.txRoom.trans a.txRoom, b.tmoIn.trans a.tmoIn, b.dataIn.trans a.dataIn, b.script.trans a.script⟩

theorem SameSurroundings.after {s t u : State} (b : SameSurroundings t u) (a : SameSurroundings s t) :
    SameSurroundings s u := a.trans b

theorem attemptFails_same (s : State) : SameSurroundings s (attemptFails s) := by
  unfold attemptFails; split <;> exact ⟨rfl, rfl, rfl, rfl, rfl, rfl, rfl, rfl, rfl⟩

theorem concludeAttempt_same (st : Status) (s : State) : SameSurroundings s (concludeAttempt st s) := by
  unfold concludeAttempt
  split
  · simp only
    split
    · exact ⟨rfl, rfl, rfl, rfl, rfl, rfl, rfl, rfl, rfl⟩
    · exact (attemptFails_same _).after ⟨rfl, rfl, rfl, rfl, rfl, rfl, rfl, rfl, rfl⟩
  · exact attemptFails_same s

theorem finish_same (st : Status) (s : State) : SameSurroundings s (finish st s) := by
  constructor <;> simp

/-- How a transport operation ends: its status is the sequencer's inside an attempt, else the command's (R222,
R225). -/
theorem endTransport_cases (st : Status) (s : State) :
    (∃ p, s.phase = .attempting p ∧ endTransport st s = concludeAttempt st s) ∨
    ((∀ p, s.phase ≠ .attempting p) ∧ endTransport st s = finish st s) := by
  unfold endTransport
  split
  · exact .inl ⟨_, by assumption, rfl⟩
  · exact .inr ⟨by assumption, rfl⟩

theorem endTransport_same (st : Status) (s : State) : SameSurroundings s (endTransport st s) := by
  obtain ⟨_, _, h⟩ | ⟨_, h⟩ := endTransport_cases st s <;> rw [h]
  · exact concludeAttempt_same st s
  · exact finish_same st s

theorem failTransmit_same (s : State) : SameSurroundings s (failTransmit s) := by
  unfold failTransmit
  split
  · exact (endTransport_same _ _).after ⟨rfl, rfl, rfl, rfl, rfl, rfl, rfl, rfl, rfl⟩
  · exact endTransport_same _ _

theorem abortTransmit_same (s : State) : SameSurroundings s (abortTransmit s) :=
  (failTransmit_same _).after (by constructor <;> simp)

theorem startTransmit_same (s : State) : SameSurroundings s (startTransmit s) := by
  unfold startTransmit
  split
  · exact failTransmit_same s
  · constructor <;> simp

theorem takeByte_same (b : Byte) (q : List Byte) (s : State) : SameSurroundings s (takeByte b q s) := by
  unfold takeByte
  simp only
  split
  · exact (endTransport_same _ _).after (by constructor <;> simp)
  · constructor <;> simp

theorem lineStep_same (p : LinePhase) (s : State) : SameSurroundings s (lineStep p s) := by
  cases p with
  | txFlush => constructor <;> simp [lineStep]
  | txAssert => constructor <;> simp [lineStep]
  | txSettle => unfold lineStep; simp only; split <;> constructor <;> simp
  | txWrite i =>
    simp only [lineStep, writePhase]
    split
    · split
      · constructor <;> simp
      · split
        · exact abortTransmit_same s
        · exact .rfl' s
    · constructor <;> simp
  | txWaitTc =>
    simp only [lineStep, waitTcPhase]
    split
    · constructor <;> simp
    · split
      · exact abortTransmit_same s
      · exact .rfl' s
  | txHold => unfold lineStep; simp only; split <;> constructor <;> simp
  | txRelease =>
    simp only [lineStep, releasePhase]
    split
    · constructor <;> simp [startReceive]
    · exact (endTransport_same _ _).after (by constructor <;> simp)
  | rxWaitFirst =>
    simp only [lineStep, waitFirstPhase]
    split
    · exact ⟨rfl, rfl, rfl, rfl, rfl, rfl, rfl, rfl, rfl⟩
    · split
      · exact takeByte_same _ _ s
      · split
        · exact endTransport_same _ s
        · exact .rfl' s
  | rxCollect =>
    simp only [lineStep, collectPhase]
    split
    · exact takeByte_same _ _ s
    · split
      · exact endTransport_same _ s
      · exact .rfl' s

theorem beginAttempt_same (n : Nat) (s : State) : SameSurroundings s (beginAttempt n s) :=
  (startTransmit_same _).after ⟨rfl, rfl, rfl, rfl, rfl, rfl, rfl, rfl, rfl⟩

/-- No step of the sequencer touches the surroundings. -/
theorem sequencerStep_same (s : State) : SameSurroundings s (sequencerStep s) := by
  unfold sequencerStep
  split
  · exact .rfl' s
  · exact lineStep_same _ s
  · exact .rfl' s
  · unfold buildingPhase
    split
    · exact (beginAttempt_same _ _).after (by constructor <;> simp)
    · split
      · exact (beginAttempt_same _ _).after (by constructor <;> simp)
      · exact finish_same _ s
  · exact lineStep_same _ s
  · split
    · exact beginAttempt_same _ s
    · exact .rfl' s
  · exact finish_same _ s
  · unfold exhaustedPhase
    split
    · exact (finish_same _ _).after (by constructor <;> simp)
    · exact finish_same _ s

/-- What the step that lets the timer win can do: the error exit of a coincidence, or the ordinary step (R221). -/
theorem timerFirstStep_cases (s : State) :
    (budgetCoincides s = true ∧ timerFirstStep s = abortTransmit s) ∨
    (budgetCoincides s = false ∧ timerFirstStep s = sequencerStep s) := by
  unfold timerFirstStep
  cases h : budgetCoincides s <;> simp

/-- What a coincidence is. -/
theorem budgetCoincides_iff (s : State) :
    budgetCoincides s = true ↔
      linePhase s.phase = some .txWaitTc ∧ uartTc s = true ∧ s.timers.txBudget = some s.now ∧
      s.timers.hold = some (s.now + s.cfg.tHold) := by
  simp [budgetCoincides, and_assoc]

theorem timerFirstStep_same (s : State) : SameSurroundings s (timerFirstStep s) := by
  obtain ⟨_, h⟩ | ⟨_, h⟩ := timerFirstStep_cases s <;> rw [h]
  · exact abortTransmit_same s
  · exact sequencerStep_same s

/-- An attempt that is over: accepted, or to be retried, or the last one (R194, R205). -/
theorem concludeAttempt_phase (st : Status) (s : State) :
    ((concludeAttempt st s).phase = .succeeded ∧ st = .ok ∧ (attemptCheck s).status = .ok) ∨
    ((concludeAttempt st s).phase = .retrying ∧ s.att < s.cfg.maxRetries) ∨
    ((concludeAttempt st s).phase = .exhausted ∧ s.cfg.maxRetries ≤ s.att) := by
  have fails : ∀ t : State, t.att = s.att → t.cfg = s.cfg →
      ((attemptFails t).phase = .retrying ∧ s.att < s.cfg.maxRetries) ∨
      ((attemptFails t).phase = .exhausted ∧ s.cfg.maxRetries ≤ s.att) := by
    intro t ha hc
    unfold attemptFails
    rw [ha, hc]
    split
    · exact .inl ⟨rfl, by assumption⟩
    · exact .inr ⟨rfl, by omega⟩
  unfold concludeAttempt
  split
  · simp only
    split
    · exact .inl ⟨rfl, by assumption, by assumption⟩
    · exact .inr (fails _ rfl rfl)
  · exact .inr (fails s rfl rfl)

/-- What the clock's move does: time passes, and a wait whose deadline that passes ends (R229). -/
theorem advanceClock_cases (n : Nat) (s : State) :
    (deadlinePassed { s with now := s.now + n } = false ∧
      advanceClock n s = { s with now := s.now + n }) ∨
    (deadlinePassed { s with now := s.now + n } = true ∧
      advanceClock n s = sequencerStep { s with now := s.now + n }) := by
  unfold advanceClock
  cases h : deadlinePassed { s with now := s.now + n } <;> simp [h]

end Sys2Proof.Machine
end

