-- ==== Sys2Proof/Laws/Drive.lean ====
section
/-! SUPPORT. How a command runs over the script: one lemma per shape of `drive`, that two scripts run one after the
other, that no move reads the script, and that every move of the line side answers a next state. -/

namespace Sys2Proof.Machine

@[simp] theorem drive_nil (s : State) : drive [] s = .next { s with script := [] } := rfl

/-- The command has ended: the rest of the script stays. -/
theorem drive_idle {s : State} (h : s.busy = false) (es : List Event) :
    drive es s = .next { s with script := es } := by
  cases es with
  | nil => rfl
  | cons e es => simp [drive, h]

/-- A command in progress: the next move happens, and the run goes on. -/
theorem drive_cons {s t : State} {e : Event} (h : s.busy = true) (he : perform e s = .next t)
    (es : List Event) : drive (e :: es) s = drive es t := by
  simp [drive, h, he]

/-- A move of the line side always answers a next state: nothing stops the machine (R236 (a)). -/
theorem perform_lineSide {e : Event} (h : e.lineSide = true) (s : State) : ∃ t, perform e s = .next t := by
  cases e <;> first | exact ⟨_, rfl⟩ | simp [Event.lineSide] at h

/-- So does a run over such moves. -/
theorem drive_lineSide (es : List Event) (h : es.all Event.lineSide = true) (s : State) :
    ∃ t, drive es s = .next t := by
  induction es generalizing s with
  | nil => exact ⟨_, rfl⟩
  | cons e es ih =>
    simp only [List.all_cons, Bool.and_eq_true] at h
    cases hb : s.busy with
    | false => exact ⟨_, drive_idle hb _⟩
    | true =>
      obtain ⟨t, ht⟩ := perform_lineSide h.1 s
      rw [drive_cons hb ht]
      exact ih h.2 t

/-- An induction packaged once: what holds when a command starts, and is kept by every move while it runs, holds when
it has run (P is about everything but the script). -/
theorem drive_induct (P : State → Prop) (hscript : ∀ s es, P s → P { s with script := es })
    (hmove : ∀ e s t, e.lineSide = true → s.busy = true → P s → perform e s = .next t → P t)
    (es : List Event) (hes : es.all Event.lineSide = true) {s t : State} (hs : P s)
    (h : drive es s = .next t) : P t := by
  induction es generalizing s with
  | nil =>
    simp only [drive_nil, Host.Outcome.next.injEq] at h
    exact h ▸ hscript s [] hs
  | cons e es ih =>
    simp only [List.all_cons, Bool.and_eq_true] at hes
    cases hb : s.busy with
    | false =>
      rw [drive_idle hb, Host.Outcome.next.injEq] at h
      exact h ▸ hscript s _ hs
    | true =>
      obtain ⟨u, hu⟩ := perform_lineSide hes.1 s
      rw [drive_cons hb hu] at h
      exact ih hes.2 (hmove e s u hes.1 hb hs hu) h

/-- What a run leaves of the script is a tail of it. -/
theorem drive_script (es : List Event) {s t : State} (h : drive es s = .next t) :
    ∃ used, es = used ++ t.script := by
  induction es generalizing s with
  | nil =>
    simp only [drive_nil, Host.Outcome.next.injEq] at h
    exact ⟨[], by simp [← h]⟩
  | cons e es ih =>
    cases hb : s.busy with
    | false =>
      rw [drive_idle hb, Host.Outcome.next.injEq] at h
      exact ⟨[], by simp [← h]⟩
    | true =>
      rw [drive, if_pos hb] at h
      split at h
      · obtain ⟨used, hu⟩ := ih h
        exact ⟨e :: used, by rw [hu, List.cons_append]⟩
      · cases h
      · cases h

/-- A command presented to a ready block is accepted and runs (R22, R26). -/
theorem runCommand_ready {s : State} (h : s.ready) (w : CommandWord) (body : State → State) :
    runCommand w body s = drive s.script (body (accept w s)) := by
  simp [runCommand, h.2.1, h.2.2]

/-- When a command presented to an idle block answers a next state, the configuration is within R8 and it ran. -/
theorem runCommand_next {s t : State} {w : CommandWord} {body : State → State}
    (hb : s.busy = false) (h : runCommand w body s = .next t) :
    s.cfg.ok = true ∧ drive s.script (body (accept w s)) = .next t := by
  cases hc : s.cfg.ok <;> simp_all [runCommand]

/-- A command whose body ends it runs in one step (R185). -/
theorem runCommand_ended {s : State} (h : s.ready) (w : CommandWord) (body : State → State)
    (hb : (body (accept w s)).busy = false) :
    runCommand w body s = .next { body (accept w s) with script := s.script } := by
  rw [runCommand_ready h, drive_idle hb]

end Sys2Proof.Machine
end

