-- ==== Sys2Proof/Laws/Ready.lean ====
section
/-! SUPPORT. What a ready state is: idle, in receive mode, its transmitter empty, no timer running, its request within
capacity. -/

namespace Sys2Proof.Machine

variable {s : State}

theorem State.Inv.idle_of_not_busy (h : s.Inv) (hb : s.busy = false) : s.phase = .idle := by
  by_contra hp
  exact absurd (h.busy_iff.mpr hp) (by simp [hb])

/-- The direction line is released outside an operation (R134). -/
theorem State.Inv.lineReleased (h : s.Inv) : s.lineReleased := by
  intro hb
  rw [h.de_eq, h.idle_of_not_busy hb]
  rfl

theorem State.ready.phase (h : s.ready) : s.phase = .idle := h.1.idle_of_not_busy h.2.1

theorem State.ready.de (h : s.ready) : s.de = false := h.1.lineReleased h.2.1

theorem State.ready.timers (h : s.ready) : s.timers = {} := h.1.no_timer h.phase

theorem State.ready.txq (h : s.ready) : s.txq = [] := (h.1.tx_empty h.de).1

theorem State.ready.txsr (h : s.ready) : s.txsr = none := (h.1.tx_empty h.de).2

/-- The capacities and counts a configuration within R8 has. -/
theorem Config.bounds_of_ok {c : Config} (h : c.ok = true) :
    (1 ≤ c.relayCount ∧ c.relayCount ≤ 65535) ∧ 1 ≤ c.maxRetries ∧ 0 < c.tSettle ∧ 0 < c.tHold ∧
    0 < c.tTxBudget ∧ (0 < c.tIdle ∧ c.tIdle < c.attemptTimeout) ∧ 8 ≤ c.rxCap ∧ 8 ≤ c.txCap := by
  simp only [Config.ok, Bool.and_eq_true, decide_eq_true_eq] at h
  tauto

end Sys2Proof.Machine
end

