-- ==== Sys2Proof/Laws/PerInstr.lean ====
section
/-! SUPPORT. Statements made per instruction. Family TableRow: the encoding of an instruction has the bits its row of
spec/opcode_table.json fixes (30_encoding.md R92: `match` and `mask` of a command row, the literal bits of a frame's
pattern). -/

namespace Sys2Proof.Laws.TableRow

/-- A command row: `word & 0xFE0000 = OP << 20`. -/
def commandRow (op : Nat) : Fetched → Prop
  | .command w => w &&& 0xFE0000#24 = BitVec.ofNat 24 (op <<< 20)
  | .request _ => False
  | .response _ => False

/-- Byte i of the frame is the literal byte b of the pattern. -/
def literal (bytes : List Byte) (i : Nat) (b : Byte) : Prop := bytes[i]? = some b

/-- The pattern `aaaaaaaa 00000101 hhhhhhhh llllllll vvvvvvvv 00000000 cccccccc dddddddd`, v all ones or all zeros. -/
def writePattern (bytes : List Byte) : Prop :=
  bytes.length = 8 ∧ literal bytes 1 0x05#8 ∧ literal bytes 5 0x00#8 ∧
  (literal bytes 4 0xFF#8 ∨ literal bytes 4 0x00#8)

/-- What the row of the opcode table fixes. -/
def row : Instr → Fetched → Prop
  | .crc16 _ _, f => commandRow 0x0 f
  | .transmit _ _, f => commandRow 0x1 f
  | .receive _ _, f => commandRow 0x2 f
  | .exchange _ _, f => commandRow 0x3 f
  | .buildWc _ _, f => commandRow 0x4 f
  | .buildRc _ _, f => commandRow 0x5 f
  | .validateWc _ _, f => commandRow 0x6 f
  | .parseRc _ _, f => commandRow 0x7 f
  | .writeCoil _ _, f => commandRow 0x8 f
  | .readCoils _ _, f => commandRow 0x9 f
  | .frameWriteCoilRequest _ _ _ _ _ _, f => ∃ b, f = .request b ∧ writePattern b
  | .frameReadCoilsRequest _ _ _, f =>
    ∃ b, f = .request b ∧ b.length = 8 ∧ literal b 1 0x01#8 ∧ literal b 2 0x00#8 ∧ literal b 3 0x00#8 ∧
      literal b 4 0x00#8 ∧ literal b 5 0x08#8
  | .frameWriteCoilResponse _ _ _ _ _ _, f => ∃ b, f = .response b ∧ writePattern b
  | .frameReadCoilsResponse _ _ _ _, f =>
    ∃ b, f = .response b ∧ b.length = 6 ∧ literal b 1 0x01#8 ∧ literal b 2 0x01#8

/-- The instruction's encoding fits its row. -/
def Statement (i : Instr) : Prop := i.wellFormed = true → row i (encode i)

theorem commandWord_masked (op : BitVec 4) (st : Bool) (ch : Word) :
    commandWord op st ch &&& 0xFE0000#24 = op.setWidth 24 <<< 20 := by
  have mask : ∀ i : Fin 24, (0xFE0000#24).getLsbD i = decide (17 ≤ i.val) := by decide
  have hop : ∀ k < 4, (commandWord op st ch).getLsbD (20 + k) = op.getLsbD k := fun k hk => by
    have := congrArg (fun v : BitVec 4 => v.getLsbD k) (opField_commandWord op st ch)
    simpa [opField, BitVec.getLsbD_extractLsb', hk] using this
  have hrs : ∀ k < 3, (commandWord op st ch).getLsbD (17 + k) = false := fun k hk => by
    have := congrArg (fun v : BitVec 3 => v.getLsbD k) (reservedField_commandWord op st ch)
    simpa [reservedField, BitVec.getLsbD_extractLsb', hk] using this
  apply BitVec.eq_of_getLsbD_eq
  intro i hi
  rw [BitVec.getLsbD_and, mask ⟨i, hi⟩, BitVec.getLsbD_shiftLeft, BitVec.getLsbD_setWidth]
  by_cases h1 : 20 ≤ i
  · have h := hop (i - 20) (by omega)
    rw [show 20 + (i - 20) = i by omega] at h
    rw [h]
    simp [hi, show ¬ i < 20 by omega, show 17 ≤ i by omega, show i - 20 < 24 by omega]
  · by_cases h2 : 17 ≤ i
    · have h := hrs (i - 17) (by omega)
      rw [show 17 + (i - 17) = i by omega] at h
      simp [h, show i < 20 by omega]
    · simp [h2, show i < 20 by omega]

theorem crc16 (st : Bool) (ch : Word) : Statement (.crc16 st ch) := fun _ => commandWord_masked 0x0#4 st ch
theorem transmit (st : Bool) (ch : Word) : Statement (.transmit st ch) := fun _ => commandWord_masked 0x1#4 st ch
theorem receive (st : Bool) (ch : Word) : Statement (.receive st ch) := fun _ => commandWord_masked 0x2#4 st ch
theorem exchange (st : Bool) (ch : Word) : Statement (.exchange st ch) := fun _ => commandWord_masked 0x3#4 st ch
theorem buildWc (st : Bool) (ch : Word) : Statement (.buildWc st ch) := fun _ => commandWord_masked 0x4#4 st ch
theorem buildRc (st : Bool) (ch : Word) : Statement (.buildRc st ch) := fun _ => commandWord_masked 0x5#4 st ch
theorem validateWc (st : Bool) (ch : Word) : Statement (.validateWc st ch) := fun _ => commandWord_masked 0x6#4 st ch
theorem parseRc (st : Bool) (ch : Word) : Statement (.parseRc st ch) := fun _ => commandWord_masked 0x7#4 st ch
theorem writeCoil (st : Bool) (ch : Word) : Statement (.writeCoil st ch) := fun _ => commandWord_masked 0x8#4 st ch
theorem readCoils (st : Bool) (ch : Word) : Statement (.readCoils st ch) := fun _ => commandWord_masked 0x9#4 st ch

/-- A value byte that is all ones or all zeros fits the pattern. -/
theorem writePattern_of_valueByte {a h l v c d : Byte} (hv : valueByteOk v = true) :
    writePattern [a, 0x05#8, h, l, v, 0x00#8, c, d] := by
  refine ⟨rfl, rfl, rfl, ?_⟩
  simpa [valueByteOk, literal] using hv

theorem frameWriteCoilRequest (a h l v c d : Byte) : Statement (.frameWriteCoilRequest a h l v c d) :=
  fun hv => ⟨_, rfl, writePattern_of_valueByte hv⟩

theorem frameReadCoilsRequest (a c d : Byte) : Statement (.frameReadCoilsRequest a c d) :=
  fun _ => ⟨_, rfl, rfl, rfl, rfl, rfl, rfl, rfl⟩

theorem frameWriteCoilResponse (a h l v c d : Byte) : Statement (.frameWriteCoilResponse a h l v c d) :=
  fun hv => ⟨_, rfl, writePattern_of_valueByte hv⟩

theorem frameReadCoilsResponse (a m c d : Byte) : Statement (.frameReadCoilsResponse a m c d) :=
  fun _ => ⟨_, rfl, rfl, rfl, rfl⟩

end Sys2Proof.Laws.TableRow
end

