-- ==== Sys2Proof/Tests/Slice0.lean ====
section
/-! SUPPORT. Tests and witnesses. Every expected value is the spec's: the vectors V and programs P of
95_test_vectors.md, or a word written out from the encoding tables of 30_encoding.md. A witness shows a concrete
state and operands that meet all hypotheses of a statement together. -/

namespace Sys2Proof.Tests

open Sys2Proof.Machine

set_option Elab.async false

/-! ## Helpers -/

/-- The machine answers a next state of which p holds. -/
def nextHas (o : Host.Outcome State Fault Refusal) (p : State → Bool) : Bool :=
  match o with
  | .next t => p t
  | .fault _ => false
  | .refused _ => false

theorem exists_of_nextHas {o : Host.Outcome State Fault Refusal} {p : State → Bool}
    (h : nextHas o p = true) : ∃ t, o = .next t ∧ p t = true := by
  cases o with
  | next t => exact ⟨t, rfl, h⟩
  | fault r => exact nomatch r
  | refused r => simp [nextHas] at h

/-- The reset state under the example configuration, with operands and a script. -/
def given (req rsp rxq : List Byte) (es : List Event) : State :=
  { State.reset with req := req, reqWritten := true, rsp := rsp, rspWritten := true, rxq := rxq, script := es }

/-- A step of it that presents a command word. -/
def run (w tmo : Nat) (data : List Byte) (s : State) : Host.Outcome State Fault Refusal :=
  step { s with script := .hostCommand (BitVec.ofNat 24 w) tmo data :: s.script }

def onFrame : List Byte := [0x01#8, 0x05#8, 0x00#8, 0x00#8, 0xFF#8, 0x00#8, 0x8C#8, 0x3A#8]
def readFrame : List Byte := [0x01#8, 0x01#8, 0x00#8, 0x00#8, 0x00#8, 0x08#8, 0x3D#8, 0xCC#8]
def maskFrame : List Byte := [0x01#8, 0x01#8, 0x01#8, 0xB2#8, 0xD1#8, 0xFD#8]
def cfg0 : Config := Config.vectors

/-- The first attempt of a transaction with the answer a, one tick a byte. -/
def attempt (a : List Byte) : List Event := sendScript cfg0 1 8 ++ answerScript cfg0 1 a

theorem ready_given (req rsp rxq : List Byte) (es : List Event) (hq : req.length ≤ 16)
    (hp : rsp.length ≤ 16) : (given req rsp rxq es).ready := by
  refine ⟨?_, rfl, rfl⟩
  constructor <;> simp_all [given, State.reset, State.resetTo, linePhase, Phase.drives,
    Phase.inTransaction, Config.vectors]

/-! ## WellFormed: an ill-formed term for its check -/

theorem test_wellFormed_refuses_value_byte :
    (Instr.frameWriteCoilRequest 1#8 0#8 0#8 0x7F#8 0#8 0#8).wellFormed = false ∧
    (Instr.frameWriteCoilResponse 1#8 0#8 0#8 0x01#8 0#8 0#8).wellFormed = false ∧
    (Instr.frameWriteCoilRequest 1#8 0#8 0#8 0xFF#8 0#8 0#8).wellFormed = true := by decide

/-! ## Decode: words written out bit by bit from R71, R72 and R76 to R79 -/

theorem test_decode_commands :
    decodeCommand 0b0000_000_0_0000000000000000#24 = .ok (.crc16 false 0#16) ∧
    decodeCommand 0b0001_000_0_0000000000000000#24 = .ok (.transmit false 0#16) ∧
    decodeCommand 0b0010_000_0_0000000000000000#24 = .ok (.receive false 0#16) ∧
    decodeCommand 0b0011_000_0_0000000000000000#24 = .ok (.exchange false 0#16) ∧
    decodeCommand 0b0100_000_1_0000000000001001#24 = .ok (.buildWc true 9#16) ∧
    decodeCommand 0b0101_000_1_1111111111111111#24 = .ok (.buildRc true 0xFFFF#16) ∧
    decodeCommand 0b0110_000_0_0000000000000000#24 = .ok (.validateWc false 0#16) ∧
    decodeCommand 0b0111_000_0_0000000000000000#24 = .ok (.parseRc false 0#16) ∧
    decodeCommand 0b1000_000_0_0000000000000010#24 = .ok (.writeCoil false 2#16) ∧
    decodeCommand 0b1001_000_0_0000000000000000#24 = .ok (.readCoils false 0#16) := by
  decide

theorem test_decode_frames :
    decode (.request onFrame) = .ok (.frameWriteCoilRequest 1#8 0#8 0#8 0xFF#8 0x8C#8 0x3A#8) ∧
    decode (.request readFrame) = .ok (.frameReadCoilsRequest 1#8 0x3D#8 0xCC#8) ∧
    decode (.response onFrame) = .ok (.frameWriteCoilResponse 1#8 0#8 0#8 0xFF#8 0x8C#8 0x3A#8) ∧
    decode (.response maskFrame) = .ok (.frameReadCoilsResponse 1#8 0xB2#8 0xD1#8 0xFD#8) := by
  decide

/-- V67: `OP` 0xA, 0xF, 0xB, and bit 17, 18 or 19 set. -/
theorem test_decode_reserved :
    decodeTableWord 24 0xA00000 = none ∧ decodeTableWord 24 0xF00000 = none ∧
    decodeTableWord 24 0xB1FFFF = none ∧ decodeTableWord 24 0x820001 = none ∧
    decodeTableWord 24 0x840001 = none ∧ decodeTableWord 24 0x880001 = none := by decide

/-! ## The CRC engine -/

/-- V1, V2, V5, V6, V7, V8. -/
theorem test_crc16_vectors :
    crc16 [] = 0xFFFF#16 ∧ crc16 [0x01#8, 0x05#8, 0x00#8, 0x00#8, 0xFF#8, 0x00#8] = 0x3A8C#16 ∧
    crc16 [0xFF#8] = 0x00FF#16 ∧ crc16 [0xFF#8, 0xFF#8] = 0x0000#16 ∧ crc16 [0x80#8] = 0xE0BE#16 ∧
    crc16 [0x31#8, 0x32#8, 0x33#8, 0x34#8, 0x35#8, 0x36#8, 0x37#8, 0x38#8, 0x39#8] = 0x4B37#16 := by
  decide +kernel

/-- R110: the first two rounds of the byte 0x01. -/
theorem test_crcRound_trace :
    crcRound 0xFFFE#16 = 0x7FFF#16 ∧ crcRound 0x7FFF#16 = 0x9FFE#16 ∧ crc16 [0x01#8] = 0x807E#16 := by
  decide +kernel

/-- V2 as a command: word 0x000000. -/
theorem test_crc16_command :
    nextHas (run 0x000000 0 [0x01#8, 0x05#8, 0x00#8, 0x00#8, 0xFF#8, 0x00#8] (given [] [] [] []))
      (fun t => t.status == .ok && t.done && !t.busy && readRes16 t == some 0x3A8C#16 && t.trace == []) =
      true := by
  decide +kernel

/-! ## The transport -/

/-- V50: `TRANSMIT` with two stale bytes, the trace tick by tick. -/
theorem test_transmit_trace :
    nextHas (run 0x100000 0 [] (given onFrame [] [0x55#8, 0xAA#8] (sendScript cfg0 1 8)))
      (fun t => t.status == .ok && !t.de && t.rxq == [] && t.trace ==
        [(.flush 2, 0), (.deUp, 0), (.tx 0x01#8, 3), (.tx 0x05#8, 4), (.tx 0x00#8, 5), (.tx 0x00#8, 6),
         (.tx 0xFF#8, 7), (.tx 0x00#8, 8), (.tx 0x8C#8, 9), (.tx 0x3A#8, 10), (.deDown, 12)]) = true := by
  decide +kernel

/-- V53: the transmitter stops after three bytes; the stall shows in the wait for room. -/
theorem test_transmit_stall :
    nextHas (run 0x100000 0 [] (given onFrame [] []
        ([Event.sequencer, Event.sequencer, Event.clock 2, Event.sequencer] ++ writesScript 1 3 ++
         [Event.uartRoom false, Event.sequencer, Event.clock 47, Event.sequencer])))
      (fun t => t.status == .txError && !t.de && t.txq == [] && t.txsr == none && t.trace ==
        [(.flush 0, 0), (.deUp, 0), (.tx 0x01#8, 3), (.tx 0x05#8, 4), (.tx 0x00#8, 5), (.deDown, 52)]) =
      true := by
  decide +kernel

/-- R137, stall(n): the last bit leaves on the tick the budget of `TX_WAIT_TC` runs out, and the timer wins. -/
theorem test_transmit_stall_after_all :
    nextHas (run 0x100000 0 [] (given onFrame [] []
        ([Event.sequencer, Event.sequencer, Event.clock 2, Event.sequencer] ++ writesScript 1 7 ++
         [Event.sequencer, Event.uartLoad, Event.sequencer, Event.clock 50, Event.uartShift, Event.timerFirst])))
      (fun t => t.status == .txError && !t.de && t.trace ==
        [(.flush 0, 0), (.deUp, 0), (.tx 0x01#8, 3), (.tx 0x05#8, 4), (.tx 0x00#8, 5), (.tx 0x00#8, 6),
         (.tx 0xFF#8, 7), (.tx 0x00#8, 8), (.tx 0x8C#8, 9), (.tx 0x3A#8, 59), (.deDown, 59)]) = true := by
  decide +kernel

/-- V55: six bytes at ticks 20 to 25, the end at tick 30. -/
theorem test_receive_answer :
    nextHas (run 0x200000 100 [] (given [] [] []
        ([Event.sequencer, Event.clock 19] ++ arrivals 1 maskFrame ++ [Event.clock 5, Event.sequencer])))
      (fun t => t.status == .ok && t.rsp == maskFrame && t.now == 30 &&
        t.trace.map (·.2) == [20, 21, 22, 23, 24, 25]) = true := by
  decide +kernel

/-- V59: a gap inside a frame; the idle timer ends the receive at three bytes and the rest stays. -/
theorem test_receive_gap :
    nextHas (run 0x200000 100 [] (given [] [] []
        ([Event.sequencer, Event.clock 19] ++ arrivals 1 [0x01#8, 0x01#8, 0x01#8] ++
         [Event.clock 5, Event.sequencer, Event.clock 3, Event.line [0xB2#8]])))
      (fun t => t.status == .ok && t.rsp == [0x01#8, 0x01#8, 0x01#8] && t.now == 27) = true := by
  decide +kernel

/-- V62: `EXCHANGE` with three stale bytes, the answer from tick 20 after `DE_DOWN`; ends at tick 42. -/
theorem test_exchange_answer :
    nextHas (run 0x300000 100 [] (given readFrame [] [1#8, 2#8, 3#8]
        (sendScript cfg0 1 8 ++ [Event.sequencer, Event.clock 19] ++ arrivals 1 maskFrame ++
         [Event.clock 5, Event.sequencer])))
      (fun t => t.status == .ok && t.rsp == maskFrame && t.now == 42 && t.trace.head? == some (.flush 3, 0)) =
      true := by
  decide +kernel

/-- V66: a byte between the flush and `DE_UP` is the first byte of the receive. -/
theorem test_exchange_window :
    nextHas (run 0x300000 100 [] (given readFrame [] []
        ([Event.sequencer, Event.line [0xEE#8]] ++ (sendScript cfg0 1 8).drop 2 ++ [Event.sequencer, Event.sequencer] ++
         arrivals 1 maskFrame ++ [Event.clock 5, Event.sequencer])))
      (fun t => t.status == .ok && t.rsp == 0xEE#8 :: maskFrame) = true := by
  decide +kernel

/-! ## The codec -/

/-- V19: `BUILD_WC 8, OFF`. -/
theorem test_build_wc_off :
    nextHas (run 0x400008 0 [] (given [] [] [] []))
      (fun t => t.status == .ok && t.req ==
        [0x01#8, 0x05#8, 0x00#8, 0x07#8, 0x00#8, 0x00#8, 0x7C#8, 0x0B#8]) = true := by
  decide +kernel

/-- V18: `BUILD_WC 9, ON` with eight relays keeps `REQ`. -/
theorem test_build_wc_range :
    nextHas (run 0x410009 0 [] (given readFrame [] [] []))
      (fun t => t.status == .invalidParameter && t.req == readFrame) = true := by
  decide +kernel

/-- V23: the word 0x51FFFF; `STATE` and `CHAN` are ignored. -/
theorem test_build_rc :
    nextHas (run 0x51FFFF 0 [] (given [] [] [] []))
      (fun t => t.status == .ok && t.req == readFrame) = true := by
  decide +kernel

/-- V24, V27, V29, V31 and V26: the exact echo, a flipped bit, another slave, another coil, nothing. -/
theorem test_validate_vectors :
    (validateWriteCoil onFrame onFrame).status = .ok ∧
    (validateWriteCoil onFrame [1#8, 5#8, 0#8, 0#8, 0xFE#8, 0#8, 0x8C#8, 0x3A#8]).status = .crcMismatch ∧
    (validateWriteCoil onFrame [2#8, 5#8, 0#8, 0#8, 0xFF#8, 0#8, 0x8C#8, 0x09#8]).status = .headerMismatch ∧
    (validateWriteCoil onFrame [1#8, 5#8, 0#8, 1#8, 0xFF#8, 0#8, 0xDD#8, 0xFA#8]).status = .headerMismatch ∧
    (validateWriteCoil onFrame []).status = .tooShort := by
  decide +kernel

/-- V44: a request operand that is not eight bytes long. -/
theorem test_validate_operand :
    nextHas (run 0x600000 0 [] (given [1#8, 2#8, 3#8, 4#8, 5#8, 6#8] onFrame [] []))
      (fun t => t.status == .invalidParameter && t.rsp == onFrame) = true := by
  decide +kernel

/-- V33, V34, V43, V36: the 5-byte hazard, the longer one, CRC before header, too short. -/
theorem test_parse_vectors :
    (parseReadCoils readFrame [0x01#8, 0x01#8, 0x00#8, 0x21#8, 0x90#8]).status = .ok ∧
    (parseReadCoils readFrame [1#8, 1#8, 2#8, 0xB2#8, 1#8, 0x0C#8, 0x9C#8]).status = .ok ∧
    (parseReadCoils readFrame [2#8, 1#8, 1#8, 0xA2#8, 0xD1#8, 0xB9#8]).status = .crcMismatch ∧
    (parseReadCoils readFrame [1#8, 1#8, 1#8, 0xB2#8]).status = .tooShort := by
  decide +kernel

/-- V35: the round trip of the bitmask 0b10110010. -/
theorem test_parse_command :
    nextHas (run 0x700000 0 [] (given readFrame maskFrame [] []))
      (fun t => t.status == .ok && readRes8 t == some 0xB2#8 && readRes16 t == none) = true := by
  decide +kernel

/-! ## Transactions -/

/-- P2: the first echo is corrupted, the second intact. -/
theorem test_write_coil_retry :
    nextHas (run 0x810003 0 [] (given [] [] []
        ([Event.sequencer] ++
         attempt [1#8, 5#8, 0#8, 3#8, 0xFF#8, 0#8, 0x2D#8, 0xFA#8] ++ [Event.clock 50, Event.sequencer] ++
         attempt [1#8, 5#8, 0#8, 2#8, 0xFF#8, 0#8, 0x2D#8, 0xFA#8] ++ [Event.sequencer])))
      (fun t => t.status == .ok && t.att == 2 && t.rsp == t.req && !t.de &&
        countEvents WireEvent.isDeUp t.trace == 2 && countEvents WireEvent.isTx t.trace == 16) = true := by
  decide +kernel

/-- V73: a silent line; three attempts, `Timeout` at tick 436. -/
theorem test_write_coil_silent :
    nextHas (run 0x810001 0 [] (given [] [] [] ([Event.sequencer] ++ silentAttempts cfg0 1 8 3 ++ [Event.sequencer])))
      (fun t => t.status == .timeout && t.now == 436 && countEvents WireEvent.isDeUp t.trace == 3 &&
        countEvents WireEvent.isTx t.trace == 24) = true := by
  decide +kernel

/-- V74: the first response corrupted, the second good. -/
theorem test_read_coils_retry :
    nextHas (run 0x900000 0 [] (given [] [] []
        ([Event.sequencer] ++ attempt [1#8, 1#8, 1#8, 0xA2#8, 0xD1#8, 0xFD#8] ++ [Event.clock 50, Event.sequencer] ++
         attempt maskFrame ++ [Event.sequencer])))
      (fun t => t.status == .ok && readRes8 t == some 0xB2#8 && t.req == readFrame) = true := by
  decide +kernel

/-- P4, step 3: channels 1 and 3 on. -/
theorem test_read_coils_answer :
    nextHas (run 0x900000 0 [] (given [] [] []
        ([Event.sequencer] ++ attempt [1#8, 1#8, 1#8, 0x05#8, 0x91#8, 0x8B#8] ++ [Event.sequencer])))
      (fun t => t.status == .ok && t.res8 == 0x05#8 && t.att == 1) = true := by
  decide +kernel

/-! ## Frames, reserved commands, commands while busy -/

theorem test_frame_write_request_loads :
    nextHas (exec (.frameWriteCoilRequest 1#8 0#8 0#8 0xFF#8 0x8C#8 0x3A#8) (given [] [] [] []))
      (fun t => t.req == onFrame) = true := by
  decide +kernel

theorem test_frame_read_request_loads :
    nextHas (exec (.frameReadCoilsRequest 1#8 0x3D#8 0xCC#8) (given [] [] [] []))
      (fun t => t.req == readFrame) = true := by
  decide +kernel

theorem test_frame_write_response_arrives :
    nextHas (exec (.frameWriteCoilResponse 1#8 0#8 0#8 0xFF#8 0x8C#8 0x3A#8) (given [] [] [7#8] []))
      (fun t => t.rxq == 7#8 :: onFrame) = true := by
  decide +kernel

/-- R135: while the driver is on the receiver is off. -/
theorem test_frame_read_response_lost :
    nextHas (exec (.frameReadCoilsResponse 1#8 0xB2#8 0xD1#8 0xFD#8) { given [] [] [] [] with de := true })
      (fun t => t.rxq == []) = true := by
  decide +kernel

/-- V67: a reserved word ends with `InvalidParameter`. -/
theorem test_reserved_command :
    nextHas (run 0xB1FFFF 0 [] (given onFrame [] [] []))
      (fun t => readStatus t == some 0x1#4 && t.trace == [] && t.req == onFrame && t.cmd == 0#24) = true := by
  decide +kernel

/-- V68: a command presented while another is in progress has no effect: the `TRANSMIT` goes on to its end. -/
theorem test_busy_command :
    nextHas (run 0x100000 0 [] (given onFrame [] []
        (.sequencer :: .hostCommand 0x810001#24 0 [] :: (sendScript cfg0 1 8).drop 2)))
      (fun t => t.status == .ok && t.cmd == 0x100000#24 && !t.busy) = true := by
  decide +kernel

/-- R244, U1: after a reset the host reads nothing of `REQ` and `RSP`, whatever they hold, until they are written. -/
theorem test_reset_reads :
    nextHas (step { given [] [] [] [.reset { ResetDraw.zero with req := onFrame, rsp := onFrame }] with done := true })
      (fun t => t.req == onFrame && readReq t 0 == none && readRsp t 0 == none && readStatus t == none &&
        nextHas (step { t with script := [.hostRequest readFrame] }) (fun u => readReq u 6 == some 0x3D#8)) = true := by
  decide +kernel

/-- R122: the first command after a reset, its operand empty, ends `TxError`; after `BUILD_RC` the frame is sent. -/
theorem test_transmit_from_reset :
    nextHas (step { State.reset with script := [.hostCommand 0x100000#24 0 []] })
      (fun t => readStatus t == some 0x2#4 && t.trace == []) = true ∧
    nextHas (Sys2Proof.core.run 2
      { State.reset with script := [.hostCommand 0x500000#24 0 [], .hostCommand 0x100000#24 0 [], .sequencer] })
      (fun t => t.busy && t.trace == [(.flush 0, 0)]) = true := by decide +kernel

/-- R245: a reset in the middle of a frame; `DE` falls and nothing is in progress. -/
theorem test_reset_in_frame :
    nextHas (run 0x100000 0 [] (given onFrame [] []
        [.sequencer, .sequencer, .clock 2, .sequencer, .sequencer, .reset ResetDraw.zero]))
      (fun t => !t.de && !t.busy && !t.done && t.txq == [] && t.phase == .idle && t.now == 2 &&
        t.trace == [(.flush 0, 0), (.deUp, 0), (.deDown, 2)]) = true := by
  decide +kernel

/-! ## Witnesses: states and operands that meet the hypotheses of the statements, at the bounds of their clauses -/

/-- Both `ready` and the hypothesis on the script are met by the reset state under operands and a script. -/
def quiet : State := given onFrame maskFrame [] []

/-- A block to which the host has loaded nothing since the reset. -/
def unloaded : State := { quiet with reqWritten := false, rspWritten := false }

/-- An over-long operand beside `REQ` (C12 (b)). -/
def overLong : State := { given [] [] [] [] with reqOver := some (List.replicate 17 0x00#8) }

/-- A `RECEIVE` that waits for its first byte until tick d. -/
def waiting (d : Nat) (es : List Event) : State :=
  { given [] [] [] es with
    busy := true, cmd := 0x200000#24, phase := .transport .rxWaitFirst, timers := { first := some d }, now := 7 }

/-- A `TRANSMIT` in the phase p, with its budget running out at tick 7 and a byte in the transmitter. -/
def sendingAt (p : LinePhase) (es : List Event) : State :=
  { given onFrame [] [] es with
    busy := true, cmd := 0x100000#24, phase := .transport p, de := true, txRoom := false,
    txq := [0x3A#8], timers := { txBudget := some 7 }, now := 7 }

/-- A `TRANSMIT` whose last byte is still in the shift register on the tick the budget runs out. -/
def lastBit : State := { sendingAt .txWaitTc [] with txq := [], txsr := some 0x3A#8 }

/-- A `RECEIVE` that has taken n bytes, on the tick its idle timer expires. -/
def collecting (n : Nat) : State :=
  { given [] (List.replicate n 3#8) [] [] with
    busy := true, cmd := 0x200000#24, phase := .transport .rxCollect, timers := { idle := some 7 }, now := 7 }

/-- A `WRITE_COIL` between its first and its second attempt. -/
def betweenAttempts (es : List Event) : State :=
  { given onFrame [] [] es with
    busy := true, cmd := 0x810001#24, phase := .retrying, att := 1, timers := { retry := some 50 }, now := 7 }

theorem ready_quiet : quiet.ready := ready_given _ _ _ _ (by decide) (by decide)

theorem ready_unloaded : unloaded.ready := ⟨{ ready_quiet.1 with }, rfl, rfl⟩

theorem ready_overLong : overLong.ready := by
  refine ⟨?_, rfl, rfl⟩
  constructor <;> simp [overLong, given, State.reset, State.resetTo, linePhase, Phase.drives,
    Phase.inTransaction, Config.vectors]

theorem inv_waiting (d : Nat) (es : List Event) : (waiting d es).Inv := by
  constructor <;> simp [waiting, given, State.reset, State.resetTo, linePhase, Phase.drives, LinePhase.drives,
    LinePhase.sending, Phase.inTransaction, Config.vectors, Config.ok]

theorem inv_sendingAt_write (es : List Event) : (sendingAt (.txWrite 7) es).Inv := by
  constructor <;> simp [sendingAt, given, State.reset, State.resetTo, linePhase, Phase.drives, LinePhase.drives,
    LinePhase.sending, Phase.inTransaction, Config.vectors, Config.ok, onFrame]

theorem inv_sendingAt_waitTc (es : List Event) : (sendingAt .txWaitTc es).Inv := by
  constructor <;> simp [sendingAt, given, State.reset, State.resetTo, linePhase, Phase.drives, LinePhase.drives,
    LinePhase.sending, Phase.inTransaction, Config.vectors, Config.ok, onFrame]

theorem inv_collecting (n : Nat) (hn : 1 ≤ n ∧ n < 16) : (collecting n).Inv := by
  constructor <;> simp [collecting, given, State.reset, State.resetTo, linePhase, Phase.drives, LinePhase.drives,
    LinePhase.sending, Phase.inTransaction, Config.vectors, Config.ok] <;> omega

theorem inv_lastBit : lastBit.Inv := by
  constructor <;> simp [lastBit, sendingAt, given, State.reset, State.resetTo, linePhase, Phase.drives,
    LinePhase.drives, LinePhase.sending, Phase.inTransaction, Config.vectors, Config.ok, onFrame]

theorem inv_betweenAttempts (es : List Event) : (betweenAttempts es).Inv := by
  constructor <;> simp [betweenAttempts, given, State.reset, State.resetTo, linePhase, Phase.drives,
    Phase.inTransaction, Config.vectors, Config.ok, onFrame]

/-- A run that answers a next state of which p holds, as the witness of a statement's hypotheses. -/
theorem ends {o : Host.Outcome State Fault Refusal} (p : State → Bool) (h : nextHas o p = true) :
    ∃ t, o = .next t ∧ p t = true := exists_of_nextHas h

/-! ### Encoding and the step -/

theorem witness_DecodeOfEncodeIsTheInstruction :
    (Instr.frameWriteCoilResponse 0#8 0xFF#8 0xFF#8 0x00#8 0xFF#8 0#8).wellFormed = true ∧
    (Instr.writeCoil true 0xFFFF#16).wellFormed = true := by decide

theorem witness_EncodeOfDecodeIsTheWord :
    decode (.response onFrame) = .ok (.frameWriteCoilResponse 1#8 0#8 0#8 0xFF#8 0x8C#8 0x3A#8) ∧
    decode (.command 0x9FFFFF#24) ≠ decode (.command 0x90FFFF#24) := by decide

/-- Both ways of being reserved, at the least and the greatest value of each. -/
theorem witness_ReservedCommandChangesOnlyStatusAndDone :
    ∀ w ∈ [0xA00000#24, 0xF00000#24, 0x020000#24, 0x0E0000#24],
      (given [] [] [] [.hostCommand w 5 []]).script = [.hostCommand w 5 []] ∧
      (given [] [] [] [.hostCommand w 5 []]).busy = false ∧
      (10 ≤ w.toNat / 2 ^ 20 ∨ w.toNat / 2 ^ 17 % 8 ≠ 0) := by
  intro w hw
  refine ⟨rfl, rfl, ?_⟩
  fin_cases hw <;> decide

theorem witness_StepRunsTheDecodedInstruction :
    ((given [] [] [] [.hostCommand 0x9FFFFF#24 0 []]).busy = false ∧
      decode (.command 0x91FFFF#24) = .ok (.readCoils true 0xFFFF#16)) ∧
    ((given [] [] [] [.hostRequest readFrame]).script = [.hostRequest readFrame] ∧
      decode (.request readFrame) = .ok (.frameReadCoilsRequest 1#8 0x3D#8 0xCC#8)) ∧
    ((given [] [] [] [.line maskFrame]).script = [.line maskFrame] ∧
      decode (.response maskFrame) = .ok (.frameReadCoilsResponse 1#8 0xB2#8 0xD1#8 0xFD#8)) := by decide

theorem witness_StepRunsTheTableWord :
    State.reset.busy = false ∧ decodeTableWord 24 0x800002 = some (.writeCoil false 2#16) ∧
    decodeTableWord 48 0xFDD1B2010101 = some (.frameReadCoilsResponse 1#8 0xB2#8 0xD1#8 0xFD#8) := by decide

theorem witness_BusyBlockTurnsCommandsAway :
    (waiting 9 [.hostCommand 0x100000#24 0 []]).busy = true ∧
    (waiting 9 [.hostCommand 0x100000#24 0 []]).script = [.hostCommand 0x100000#24 0 []] := ⟨rfl, rfl⟩

/-! ### CRC engine and codec -/

theorem witness_Crc16CommandResult : quiet.ready := ready_quiet

theorem witness_CrcIsLinear :
    ([] : List Byte).length = ([] : List Byte).length ∧ onFrame.length = readFrame.length ∧
    readFrame.length = (List.replicate 8 0xFF#8).length := by decide

theorem witness_CrcDetectsASingleBit : 0 < onFrame.length ∧ 7 < onFrame.length ∧ 0 < 8 ∧ 7 < 8 := by decide

/-- The channels 1 and `RELAY_COUNT` inside the range, 0 and `RELAY_COUNT + 1` outside it. -/
theorem witness_BuildWriteCoilRequest : quiet.ready ∧
    (∀ ch ∈ [1#16, 8#16], 1 ≤ ch.toNat ∧ ch.toNat ≤ quiet.cfg.relayCount) ∧
    (∀ ch ∈ [0#16, 9#16, 0xFFFF#16], ¬ (1 ≤ ch.toNat ∧ ch.toNat ≤ quiet.cfg.relayCount)) :=
  ⟨ready_quiet, fun ch hc => by fin_cases hc <;> decide, fun ch hc => by fin_cases hc <;> decide⟩

theorem witness_BuildReadCoilsRequest : quiet.ready := ready_quiet

/-- One ready state for each clause of the chain: a short request, seven bytes, a bad CRC, another slave, another
coil, the echo, and nine bytes whose first eight are the echo. -/
theorem witness_ValidateWriteCoilVerdict :
    (∀ c ∈ [(onFrame.take 7, onFrame), (onFrame, onFrame.take 7), (onFrame, List.replicate 8 0#8),
            (onFrame, withCrc [2#8, 5#8, 0#8, 0#8, 0xFF#8, 0#8]),
            (onFrame, withCrc [1#8, 5#8, 0#8, 1#8, 0xFF#8, 0#8]), (onFrame, onFrame),
            (onFrame, onFrame ++ [0x00#8])],
      (given c.1 c.2 [] []).ready) ∧
    [(onFrame.take 7, onFrame), (onFrame, onFrame.take 7), (onFrame, List.replicate 8 0#8),
     (onFrame, withCrc [2#8, 5#8, 0#8, 0#8, 0xFF#8, 0#8]), (onFrame, withCrc [1#8, 5#8, 0#8, 1#8, 0xFF#8, 0#8]),
     (onFrame, onFrame), (onFrame, onFrame ++ [0x00#8])].map (fun c => (validateWriteCoil c.1 c.2).status) =
      [.invalidParameter, .tooShort, .crcMismatch, .headerMismatch, .headerMismatch, .ok, .ok] := by
  refine ⟨fun c hc => ready_given _ _ _ _ ?_ ?_, by decide +kernel⟩ <;> revert c <;> decide +kernel

theorem witness_AcceptedWriteResponseIsTheEcho :
    (∃ s t : State, s.ready ∧ exec (.validateWc false 0#16) s = .next t ∧ requestOperand s = s.req ∧
      s.req.length = 8 ∧ 8 ≤ s.rsp.length ∧ frameCrcOk (s.rsp.take 8) = true ∧ s.rsp.take 2 = s.req.take 2 ∧
      (s.rsp.drop 2).take 4 ≠ (s.req.drop 2).take 4) ∧
    (∃ s t : State, s.ready ∧ exec (.validateWc false 0#16) s = .next t ∧ t.status = .ok ∧
      frameCrcOk s.req = true) := by
  constructor
  · obtain ⟨t, ht, -⟩ := ends (o := exec (.validateWc false 0#16)
      (given onFrame (withCrc [1#8, 5#8, 0#8, 1#8, 0xFF#8, 0#8]) [] [])) (fun _ => true) (by decide +kernel)
    exact ⟨_, t, ready_given _ _ _ _ (by decide) (by decide +kernel), ht, rfl, rfl, by decide +kernel,
      by decide +kernel, by decide +kernel, by decide +kernel⟩
  · obtain ⟨t, ht, hs⟩ := ends (o := exec (.validateWc false 0#16) (given onFrame onFrame [] []))
      (fun t => t.status == .ok) (by decide +kernel)
    exact ⟨_, t, ready_given _ _ _ _ (by decide) (by decide), ht, by simpa using hs, by decide +kernel⟩

/-- One ready state for each clause: a short request, four bytes, a bad CRC, another slave, five bytes. -/
theorem witness_ParseReadCoilsVerdict :
    (∀ c ∈ [(readFrame.take 7, maskFrame), (readFrame, maskFrame.take 4), (readFrame, List.replicate 5 1#8),
            (readFrame, withCrc [2#8, 1#8, 1#8, 0xB2#8]), (readFrame, withCrc [1#8, 1#8, 0#8])],
      (given c.1 c.2 [] []).ready) ∧
    [(readFrame.take 7, maskFrame), (readFrame, maskFrame.take 4), (readFrame, List.replicate 5 1#8),
     (readFrame, withCrc [2#8, 1#8, 1#8, 0xB2#8]), (readFrame, withCrc [1#8, 1#8, 0#8])].map
        (fun c => (parseReadCoils c.1 c.2).status) =
      [.invalidParameter, .tooShort, .crcMismatch, .headerMismatch, .ok] := by
  refine ⟨fun c hc => ready_given _ _ _ _ ?_ ?_, by decide +kernel⟩ <;> revert c <;> decide +kernel

/-- The 5-byte response and a longer one. -/
theorem witness_ParseReadCoilsHazards :
    ∀ rest ∈ [[], [0xB2#8], [0xB2#8, 0x01#8]],
      (given readFrame (withCrc ([1#8, 1#8, 0#8] ++ rest)) [] []).ready ∧
      (given readFrame (withCrc ([1#8, 1#8, 0#8] ++ rest)) [] []).reqOver = none ∧
      readFrame.length = 8 ∧ readFrame.take 2 = [1#8, 1#8] := by
  intro rest hr
  refine ⟨ready_given _ _ _ _ ?_ ?_, rfl, rfl, rfl⟩
  · decide
  · revert rest; decide +kernel

/-! ### Frames -/

/-- Loads of no byte, of a full buffer and of one byte more, on each side; and a busy block. -/
theorem witness_RequestFramesLoadReq :
    quiet.ready ∧ (∀ n ∈ [0, 16, 17],
      (given [] [] [] [.hostRequest (List.replicate n 1#8)]).ready ∧
      (given [] [] [] [.hostResponse (List.replicate n 1#8)]).ready) ∧
    ((List.replicate 16 1#8).length ≤ quiet.cfg.txCap ∧ quiet.cfg.txCap < (List.replicate 17 1#8).length) ∧
    ((List.replicate 16 1#8).length ≤ quiet.cfg.rxCap ∧ quiet.cfg.rxCap < (List.replicate 17 1#8).length) ∧
    (waiting 9 [.hostRequest readFrame]).busy = true ∧ (waiting 9 [.hostResponse maskFrame]).busy = true :=
  ⟨ready_quiet, fun _ _ => ⟨ready_given _ _ _ _ (by decide) (by decide), ready_given _ _ _ _ (by decide) (by decide)⟩,
   by decide, by decide, rfl, rfl⟩

/-- Both senses of the direction line. -/
theorem witness_ResponseFramesJoinTheReceivePath : quiet.de = false ∧ (sendingAt .txWaitTc []).de = true :=
  ⟨rfl, rfl⟩

theorem witness_ReceiverIsOffWhileDriving :
    ∃ s t : State, s.Inv ∧ s.de = true ∧ step s = .next t ∧ (∀ u es, s.script ≠ .reset u :: es) := by
  obtain ⟨t, ht, -⟩ := ends (o := step (sendingAt .txWaitTc [.line maskFrame])) (fun _ => true)
    (by decide +kernel)
  exact ⟨_, t, inv_sendingAt_waitTc _, rfl, ht, by simp [sendingAt, given]⟩

/-! ### Transport -/

/-- Length 0, and length `TX_CAP + 1`; and a configuration within R8. -/
theorem witness_TransmitRefusesBadLength :
    ((given [] [] [] []).ready ∧ (requestOperand (given [] [] [] [])).length = 0) ∧
    (overLong.ready ∧ (requestOperand overLong).length = overLong.cfg.txCap + 1) ∧ cfg0.ok = true :=
  ⟨⟨ready_given _ _ _ _ (by decide) (by decide), rfl⟩, ⟨ready_overLong, by decide⟩, by decide⟩

/-- One byte, and `TX_CAP` bytes. -/
theorem witness_TransmitSendsTheRequest :
    ∀ n ∈ [1, 16], (given (List.replicate n 0x55#8) [] [7#8] (sendScript cfg0 1 n)).ready ∧
      1 ≤ (List.replicate n 0x55#8).length := by
  intro n hn
  refine ⟨ready_given _ _ _ _ ?_ (by decide), ?_⟩ <;> revert n <;> decide

/-- The frame is sent whole, and it is cut after three bytes. -/
theorem witness_TransmitTraceOnEveryLine :
    (∃ s t : State, s.ready ∧ s.script.all Event.lineSide = true ∧ s.reqOver = none ∧ 1 ≤ s.req.length ∧
      exec (.transmit false 0#16) s = .next t ∧ t.busy = false ∧ t.status = .ok) ∧
    (∃ s t : State, s.ready ∧ s.script.all Event.lineSide = true ∧ s.reqOver = none ∧ 1 ≤ s.req.length ∧
      exec (.transmit false 0#16) s = .next t ∧ t.busy = false ∧ t.status = .txError) := by
  constructor
  · obtain ⟨t, ht, h⟩ := ends (o := exec (.transmit false 0#16) (given onFrame [] [] (sendScript cfg0 1 8)))
      (fun t => !t.busy && t.status == .ok) (by decide +kernel)
    simp at h
    exact ⟨_, t, ready_given _ _ _ _ (by decide) (by decide), by decide +kernel, rfl, by decide, ht, h.1, h.2⟩
  · obtain ⟨t, ht, h⟩ := ends (o := exec (.transmit false 0#16) (given onFrame [] []
      ([Event.sequencer, Event.sequencer, Event.clock 2, Event.sequencer] ++ writesScript 1 3 ++
        [Event.uartRoom false, Event.sequencer, Event.clock 50, Event.sequencer])))
      (fun t => !t.busy && t.status == .txError) (by decide +kernel)
    simp at h
    exact ⟨_, t, ready_given _ _ _ _ (by decide) (by decide), by decide +kernel, rfl, by decide, ht, h.1, h.2⟩

/-- Each of the three commands, ended and in progress. -/
theorem witness_TransportFrame :
    ∀ i ∈ [Instr.transmit false 0#16, .receive false 0#16, .exchange false 0#16],
      ∃ s t : State, s.ready ∧ s.script.all Event.lineSide = true ∧ exec i s = .next t := by
  intro i hi
  have h : nextHas (exec i (given onFrame [] [] [.sequencer, .clock 3])) (fun _ => true) = true := by
    revert i; decide +kernel
  obtain ⟨t, ht, -⟩ := exists_of_nextHas h
  exact ⟨_, t, ready_given _ _ _ _ (by decide) (by decide), by decide, ht⟩

/-- Both commands, ended: on a silent line, and (`WRITE_COIL`) on a refused channel. -/
theorem witness_TransactionFrame :
    ∀ i ∈ [Instr.writeCoil true 1#16, .writeCoil true 9#16, .readCoils false 0#16],
      ∃ s t : State, s.ready ∧ s.script.all Event.lineSide = true ∧ exec i s = .next t ∧ t.busy = false := by
  intro i hi
  have h : nextHas (exec i (given [] [] [] ([Event.sequencer] ++ silentAttempts cfg0 1 8 3 ++ [Event.sequencer])))
      (fun t => !t.busy) = true := by
    revert i; decide +kernel
  obtain ⟨t, ht, hb⟩ := exists_of_nextHas h
  exact ⟨_, t, ready_given _ _ _ _ (by decide) (by decide), by decide +kernel, ht, by simpa using hb⟩

/-- Both waits, on the tick the budget runs out. -/
theorem witness_BudgetExpiryReleasesTheLine :
    (∃ (s : State) (i : Nat), s.Inv ∧ opField s.cmd = 0x1#4 ∧ s.timers.txBudget = some s.now ∧
      s.phase = .transport (.txWrite i) ∧ i < s.req.length ∧ s.txRoom = false) ∧
    (∃ s : State, s.Inv ∧ opField s.cmd = 0x1#4 ∧ s.timers.txBudget = some s.now ∧ s.phase = .transport .txWaitTc ∧
      (s.txq ≠ [] ∨ s.txsr ≠ none)) :=
  ⟨⟨_, 7, inv_sendingAt_write [], by decide, rfl, rfl, by decide, rfl⟩,
   ⟨_, inv_sendingAt_waitTc [], by decide, rfl, rfl, Or.inl (by decide)⟩⟩

/-- The moves that run the sequencer, the clock among them on the tick of the deadline and past it. -/
theorem witness_HoldOnlyAfterTheLastBit :
    linePhase (sendingAt .txWaitTc []).phase = some .txWaitTc ∧
    ((sendingAt .txWaitTc []).txq ≠ [] ∨ (sendingAt .txWaitTc []).txsr ≠ none) ∧
    ∀ e ∈ [Event.sequencer, .timerFirst, .clock 0, .clock 1],
      ∃ t, perform e (sendingAt .txWaitTc []) = .next t := by
  refine ⟨rfl, Or.inl (by decide), fun e he => ?_⟩
  exact perform_lineSide (by revert e; decide) _

/-- Ended `OK` with bytes left, and ended `RxTimeout`. -/
theorem witness_ReceiveTakesBytesInOrder :
    (∃ s t : State, s.ready ∧ s.script.all Event.lineSide = true ∧ exec (.receive false 0#16) s = .next t ∧
      t.busy = false ∧ t.status = .ok ∧ t.rxq ≠ []) ∧
    (∃ s t : State, s.ready ∧ s.script.all Event.lineSide = true ∧ exec (.receive false 0#16) s = .next t ∧
      t.busy = false ∧ t.status = .rxTimeout) := by
  constructor
  · obtain ⟨t, ht, h⟩ := ends (o := exec (.receive false 0#16)
      (given [] [] (List.replicate 17 3#8) (List.replicate 17 .sequencer)))
      (fun t => !t.busy && t.status == .ok && t.rxq != []) (by decide +kernel)
    simp at h
    exact ⟨_, t, ready_given _ _ _ _ (by decide) (by decide), by decide, ht, h.1.1, h.1.2, h.2⟩
  · obtain ⟨t, ht, h⟩ := ends (o := exec (.receive false 0#16) (given [] [] [] (silenceScript 0)))
      (fun t => !t.busy && t.status == .rxTimeout) (by decide +kernel)
    simp at h
    exact ⟨_, t, ready_given _ _ _ _ (by decide) (by decide), by decide, ht, h.1, h.2⟩

/-- One byte, and `RX_CAP` bytes; the gaps as long as both timers allow. -/
theorem witness_ReceiveCollectsTheAnswer :
    ∀ n ∈ [1, 16], ∃ s : State, s.ready ∧ s.rxq = [] ∧ 1 ≤ (List.replicate n 3#8).length ∧
      (List.replicate n 3#8).length ≤ s.cfg.rxCap ∧ 5 ≤ s.tmoIn ∧ 5 ≤ s.cfg.tIdle ∧
      s.script = answerScript s.cfg 5 (List.replicate n 3#8) ++ ([] : List Event) := by
  intro n hn
  obtain ⟨hi, hb, hc⟩ := ready_given [] [] [] (answerScript cfg0 5 (List.replicate n 3#8)) (by decide) (by decide)
  refine ⟨{ given [] [] [] (answerScript cfg0 5 (List.replicate n 3#8)) with tmoIn := 5 },
    ⟨{ hi with }, hb, hc⟩, rfl, ?_, ?_, Nat.le_refl _, Nat.le_refl _, by simp [given, State.reset, State.resetTo, cfg0]⟩
    <;> fin_cases hn <;> decide

/-- `RX_CAP` bytes waiting and one more; one byte (V57), and one less than `RX_CAP`; the timeout is 0. -/
theorem witness_ReceiveStopsAtCapacity :
    (∀ n ∈ [16, 17], (given [] [] (List.replicate n 3#8) (List.replicate 17 .sequencer)).ready ∧
      quiet.cfg.rxCap ≤ (List.replicate n 3#8).length) ∧
    (∀ n ∈ [1, 15],
      (given [] [] (List.replicate n 3#8)
        (List.replicate (n + 1) Event.sequencer ++ [Event.clock 5, Event.sequencer])).ready ∧
      1 ≤ (List.replicate n 3#8).length ∧ (List.replicate n 3#8).length < quiet.cfg.rxCap) := by
  refine ⟨fun n hn => ⟨ready_given _ _ _ _ (by decide) (by decide), ?_⟩,
    fun n hn => ⟨ready_given _ _ _ _ (by decide) (by decide), ?_, ?_⟩⟩ <;> revert n <;> decide

/-- The timeout 0, and one of 100 ticks. -/
theorem witness_ReceiveTimesOut :
    ∀ d ∈ [0, 100], ∃ s : State, s.ready ∧ s.rxq = [] ∧ s.tmoIn = d ∧ s.script = silenceScript s.tmoIn ++ ([] : List Event) := by
  intro d _
  obtain ⟨hi, hb, hc⟩ := ready_given [] [] [] (silenceScript d) (by decide) (by decide)
  exact ⟨{ given [] [] [] (silenceScript d) with tmoIn := d }, ⟨{ hi with }, hb, hc⟩, rfl, rfl, by simp [given]⟩

theorem witness_CoincidenceHasBothOutcomes :
    ((waiting 7 []).Inv ∧ opField (waiting 7 []).cmd = 0x2#4 ∧
      (waiting 7 []).phase = .transport .rxWaitFirst ∧
      (waiting 7 []).timers.first = some (waiting 7 []).now ∧ (waiting 7 []).rxq = []) ∧
    (∀ n ∈ [1, 15], (collecting n).Inv ∧ opField (collecting n).cmd = 0x2#4 ∧
      (collecting n).phase = .transport .rxCollect ∧
      (collecting n).timers.idle = some (collecting n).now ∧ (collecting n).rxq = []) ∧
    ((sendingAt (.txWrite 7) []).Inv ∧ opField (sendingAt (.txWrite 7) []).cmd = 0x1#4 ∧
      7 < (sendingAt (.txWrite 7) []).req.length ∧
      (sendingAt (.txWrite 7) []).timers.txBudget = some (sendingAt (.txWrite 7) []).now ∧
      (sendingAt (.txWrite 7) []).txRoom = false) ∧
    (lastBit.Inv ∧ opField lastBit.cmd = 0x1#4 ∧ lastBit.phase = .transport .txWaitTc ∧
      lastBit.timers.txBudget = some lastBit.now ∧ lastBit.txq = [] ∧ lastBit.txsr = some 0x3A#8) :=
  ⟨⟨inv_waiting _ _, by decide, rfl, rfl, rfl⟩,
   fun n hn => ⟨inv_collecting n (by revert n; decide), by decide +revert, rfl, rfl, rfl⟩,
   ⟨inv_sendingAt_write _, by decide, by decide, rfl, rfl⟩, inv_lastBit, by decide, rfl, rfl, rfl, rfl⟩

/-- The clock passes the deadline by one tick. -/
theorem witness_LateByteIsNotTaken :
    (waiting 9 []).Inv ∧ opField (waiting 9 []).cmd = 0x2#4 ∧
    (waiting 9 []).phase = .transport .rxWaitFirst ∧ (waiting 9 []).timers.first = some 9 ∧
    (waiting 9 []).rxq = [] ∧ 9 < (waiting 9 []).now + 3 := ⟨inv_waiting _ _, by decide, rfl, rfl, rfl, by decide⟩

/-- One byte and `RX_CAP` bytes of answer, the gaps as long as the idle time allows. -/
theorem witness_ExchangeReturnsTheAnswer :
    ∀ n ∈ [1, 16], ∃ s : State, s.ready ∧ s.reqOver = none ∧ 1 ≤ s.req.length ∧
      1 ≤ (List.replicate n 3#8).length ∧ (List.replicate n 3#8).length ≤ s.cfg.rxCap ∧ 5 ≤ s.tmoIn ∧
      5 ≤ s.cfg.tIdle ∧
      s.script = sendScript s.cfg 5 s.req.length ++ answerScript s.cfg 5 (List.replicate n 3#8) ++ ([] : List Event) := by
  intro n hn
  obtain ⟨hi, hb, hc⟩ := ready_given onFrame [] []
    (sendScript cfg0 5 8 ++ answerScript cfg0 5 (List.replicate n 3#8)) (by decide) (by decide)
  refine ⟨{ given onFrame [] [] (sendScript cfg0 5 8 ++ answerScript cfg0 5 (List.replicate n 3#8)) with tmoIn := 5 },
    ⟨{ hi with }, hb, hc⟩, rfl, Nat.le_add_left 1 7, ?_, ?_, Nat.le_refl _, Nat.le_refl _,
    by simp [given, State.reset, State.resetTo, cfg0, onFrame]⟩ <;> fin_cases hn <;> decide

/-- The three ends of an exchange, each reached; the first with a byte that arrived before it and one during it. -/
theorem exchange_ends :
    (∃ s t : State, s.ready ∧ s.script.all Event.lineSide = true ∧ exec (.exchange false 0#16) s = .next t ∧
      t.busy = false ∧ t.status = .ok) ∧
    (∃ s t : State, s.ready ∧ s.script.all Event.lineSide = true ∧ exec (.exchange false 0#16) s = .next t ∧
      t.busy = false ∧ t.status = .txError) ∧
    (∃ s t : State, s.ready ∧ s.script.all Event.lineSide = true ∧ exec (.exchange false 0#16) s = .next t ∧
      t.busy = false ∧ t.status = .rxTimeout) := by
  refine ⟨?_, ?_, ?_⟩
  · obtain ⟨t, ht, h⟩ := ends (o := exec (.exchange false 0#16) (given onFrame [] [7#8]
      (sendScript cfg0 1 8 ++ [Event.line maskFrame] ++ List.replicate 7 Event.sequencer ++ [Event.clock 5, Event.sequencer])))
      (fun t => !t.busy && t.status == .ok) (by decide +kernel)
    simp at h
    exact ⟨_, t, ready_given _ _ _ _ (by decide) (by decide), by decide +kernel, ht, h.1, h.2⟩
  · obtain ⟨t, ht, h⟩ := ends (o := exec (.exchange false 0#16) (given onFrame [] []
      [.uartRoom false, .sequencer, .sequencer, .clock 2, .sequencer, .clock 51]))
      (fun t => !t.busy && t.status == .txError) (by decide +kernel)
    simp at h
    exact ⟨_, t, ready_given _ _ _ _ (by decide) (by decide), by decide, ht, h.1, h.2⟩
  · obtain ⟨t, ht, h⟩ := ends (o := exec (.exchange false 0#16) (given onFrame [] []
      (sendScript cfg0 1 8 ++ silenceScript 0)))
      (fun t => !t.busy && t.status == .rxTimeout) (by decide +kernel)
    simp at h
    exact ⟨_, t, ready_given _ _ _ _ (by decide) (by decide), by decide +kernel, ht, h.1, h.2⟩

theorem witness_ExchangeResultsAreComplete :
    ∃ s t : State, s.ready ∧ s.script.all Event.lineSide = true ∧ exec (.exchange false 0#16) s = .next t ∧
      t.busy = false := by
  obtain ⟨⟨s, t, h1, h2, h3, h4, -⟩, -, -⟩ := exchange_ends
  exact ⟨s, t, h1, h2, h3, h4⟩

/-- A stalled transmitter for the first clause; lengths 0 and `TX_CAP + 1` for the second. -/
theorem witness_ExchangeStopsAtTxError :
    (∃ s t : State, s.ready ∧ s.script.all Event.lineSide = true ∧ exec (.exchange false 0#16) s = .next t ∧
      t.busy = false ∧ t.status = .txError) ∧
    ((given [] [] [] []).ready ∧ (requestOperand (given [] [] [] [])).length = 0) ∧
    (overLong.ready ∧ (requestOperand overLong).length = overLong.cfg.txCap + 1) :=
  ⟨exchange_ends.2.1, witness_TransmitRefusesBadLength.1, witness_TransmitRefusesBadLength.2.1⟩

theorem witness_ExchangeReturnsNoStaleByte :
    ∃ s t : State, s.ready ∧ s.script.all Event.lineSide = true ∧ exec (.exchange false 0#16) s = .next t ∧
      t.busy = false ∧ t.status = .ok := exchange_ends.1

/-! ### Transactions -/

/-- The channels 0 and `RELAY_COUNT + 1`. -/
theorem witness_WriteCoilFailsFast :
    (given [] [] [] [.sequencer]).ready ∧
    ∀ ch ∈ [0#16, 9#16], ch.toNat < 1 ∨ quiet.cfg.relayCount < ch.toNat :=
  ⟨ready_given _ _ _ _ (by decide) (by decide), fun ch hc => by fin_cases hc <;> decide⟩

/-- The channels 1 and `RELAY_COUNT`; the gaps as long as the idle time allows. -/
theorem witness_WriteCoilSucceedsOnTheEcho :
    ∀ ch ∈ [1#16, 8#16], ∃ s : State, s.ready ∧ 1 ≤ ch.toNat ∧ ch.toNat ≤ s.cfg.relayCount ∧ 5 ≤ s.cfg.tIdle ∧
      s.script = [Event.sequencer] ++ sendScript s.cfg 5 8 ++
        answerScript s.cfg 5 (withCrc (writeCoilBody s.cfg true ch)) ++ [Event.sequencer] ++
        ([] : List Event) := by
  intro ch hc
  refine ⟨given [] [] [] ([Event.sequencer] ++ sendScript cfg0 5 8 ++
      answerScript cfg0 5 (withCrc (writeCoilBody cfg0 true ch)) ++ [Event.sequencer] ++
        ([] : List Event)),
    ready_given _ _ _ _ (by decide) (by decide), ?_, ?_, Nat.le_refl _, rfl⟩ <;>
    fin_cases hc <;> decide

/-- The 5-byte answer, the well-formed one, and one of `RX_CAP` bytes. -/
theorem witness_ReadCoilsReturnsTheBitmask :
    ∀ data ∈ [[], [0xB2#8], List.replicate 11 0#8], ∃ s : State, s.ready ∧ 5 ≤ s.cfg.tIdle ∧
      (withCrc ([s.cfg.slaveAddr, 0x01#8, 1#8] ++ data)).length ≤ s.cfg.rxCap ∧
      s.script = [Event.sequencer] ++ sendScript s.cfg 5 8 ++
        answerScript s.cfg 5 (withCrc ([s.cfg.slaveAddr, 0x01#8, 1#8] ++ data)) ++ [Event.sequencer] ++
        ([] : List Event) := by
  intro data hd
  refine ⟨given [] [] [] ([Event.sequencer] ++ sendScript cfg0 5 8 ++
      answerScript cfg0 5 (withCrc ([cfg0.slaveAddr, 0x01#8, 1#8] ++ data)) ++ [Event.sequencer] ++
        ([] : List Event)),
    ready_given _ _ _ _ (by decide) (by decide), Nat.le_refl _, ?_, rfl⟩
  revert data; decide +kernel

theorem witness_SilentLineExhaustsTheAttempts :
    ∃ s : State, s.ready ∧ (∀ ch ∈ [1#16, 8#16], 1 ≤ ch.toNat ∧ ch.toNat ≤ s.cfg.relayCount) ∧
      s.script = [Event.sequencer] ++ silentAttempts s.cfg 0 8 s.cfg.maxRetries ++ [Event.sequencer] ++
        ([] : List Event) :=
  ⟨given [] [] [] ([Event.sequencer] ++ silentAttempts cfg0 0 8 3 ++ [Event.sequencer] ++
        ([] : List Event)),
    ready_given _ _ _ _ (by decide) (by decide), fun ch hc => by fin_cases hc <;> decide, rfl⟩

/-- Each status a transaction can end with, reached. -/
theorem transaction_ends :
    ∀ c ∈ [(Instr.writeCoil true 0#16, Status.invalidParameter), (.writeCoil true 9#16, .invalidParameter),
           (.writeCoil true 1#16, .timeout), (.readCoils false 0#16, .timeout)],
      ∃ s t : State, s.ready ∧ s.script.all Event.lineSide = true ∧ exec c.1 s = .next t ∧ t.busy = false ∧
        t.status = c.2 := by
  intro c hc
  have h : nextHas (exec c.1 (given [] [] [] ([Event.sequencer] ++ silentAttempts cfg0 1 8 3 ++ [Event.sequencer])))
      (fun t => !t.busy && t.status == c.2) = true := by
    revert c; decide +kernel
  obtain ⟨t, ht, hb⟩ := exists_of_nextHas h
  simp at hb
  exact ⟨_, t, ready_given _ _ _ _ (by decide) (by decide), by decide +kernel, ht, hb.1, hb.2⟩

/-- A transaction ends `OK`, on its second attempt. -/
theorem transaction_succeeds :
    ∃ s t : State, s.ready ∧ s.script.all Event.lineSide = true ∧ exec (.readCoils false 0#16) s = .next t ∧
      t.busy = false ∧ t.status = .ok ∧ t.att = 2 := by
  obtain ⟨t, ht, h⟩ := ends (o := exec (.readCoils false 0#16) (given [] [] []
      ([Event.sequencer] ++ attempt [7#8] ++ [Event.clock 50, Event.sequencer] ++ attempt maskFrame ++ [Event.sequencer])))
    (fun t => !t.busy && t.status == .ok && t.att == 2) (by decide +kernel)
  simp at h
  exact ⟨_, t, ready_given _ _ _ _ (by decide) (by decide), by decide +kernel, ht, h.1.1, h.1.2, h.2⟩

theorem witness_TransactionStatuses :
    (∃ s t : State, s.ready ∧ s.script.all Event.lineSide = true ∧ exec (.writeCoil true 9#16) s = .next t ∧
      t.busy = false ∧ t.status = .invalidParameter) ∧
    (∃ s t : State, s.ready ∧ s.script.all Event.lineSide = true ∧ exec (.writeCoil true 1#16) s = .next t ∧
      t.busy = false ∧ t.status = .timeout) ∧
    (∃ s t : State, s.ready ∧ s.script.all Event.lineSide = true ∧ exec (.readCoils false 0#16) s = .next t ∧
      t.busy = false ∧ t.status = .ok ∧ t.att = 2) :=
  ⟨transaction_ends (.writeCoil true 9#16, .invalidParameter) (by simp),
   transaction_ends (.writeCoil true 1#16, .timeout) (by simp), transaction_succeeds⟩

theorem witness_TransactionCounts :
    (∃ s t : State, s.ready ∧ s.script.all Event.lineSide = true ∧ exec (.writeCoil true 0#16) s = .next t ∧
      t.busy = false ∧ t.status = .invalidParameter) ∧
    (∃ s t : State, s.ready ∧ s.script.all Event.lineSide = true ∧ exec (.readCoils false 0#16) s = .next t ∧
      t.busy = false ∧ t.status = .timeout) ∧
    (∃ s t : State, s.ready ∧ s.script.all Event.lineSide = true ∧ exec (.readCoils false 0#16) s = .next t ∧
      t.busy = false ∧ t.status = .ok ∧ t.att = 2) :=
  ⟨transaction_ends (.writeCoil true 0#16, .invalidParameter) (by simp),
   transaction_ends (.readCoils false 0#16, .timeout) (by simp), transaction_succeeds⟩

theorem witness_AttemptsAreAbsorbed :
    ∃ s t : State, s.Inv ∧ s.phase.inTransaction = true ∧ step s = .next t ∧ t.phase.inTransaction = true := by
  obtain ⟨t, ht, h⟩ := ends (o := step (betweenAttempts [.line [0x01#8]]))
    (fun t => t.phase.inTransaction) (by decide +kernel)
  exact ⟨_, t, inv_betweenAttempts _, rfl, ht, h⟩

/-- The channels 1 and `RELAY_COUNT`; two attempts that fail, one on a silent line, before one that is accepted; and
the last attempt failing too. -/
theorem witness_HostComposedWriteAgrees :
    quiet.ready ∧ 5 ≤ quiet.cfg.tIdle ∧
    (∀ ch ∈ [1#16, 8#16], 1 ≤ ch.toNat ∧ ch.toNat ≤ quiet.cfg.relayCount) ∧
    ∀ last ∈ [onFrame, []],
      (∀ a ∈ [last, [], [7#8]], a.length ≤ quiet.cfg.rxCap) ∧
      [[], [7#8]].length < quiet.cfg.maxRetries ∧
      (∀ a ∈ [[], [7#8]], (validateWriteCoil (withCrc (writeCoilBody quiet.cfg true 1#16)) a).status ≠ .ok) ∧
      ((validateWriteCoil (withCrc (writeCoilBody quiet.cfg true 1#16)) last).status = .ok ∨
        ([[], [7#8]] : List (List Byte)).length + 1 = quiet.cfg.maxRetries) :=
  ⟨ready_quiet, by decide, fun ch hc => by fin_cases hc <;> decide, by decide +kernel⟩

theorem witness_HostComposedReadAgrees :
    quiet.ready ∧ 5 ≤ quiet.cfg.tIdle ∧
    ∀ last ∈ [maskFrame, []],
      (∀ a ∈ [last, [], [7#8]], a.length ≤ quiet.cfg.rxCap) ∧
      [[], [7#8]].length < quiet.cfg.maxRetries ∧
      (∀ a ∈ [[], [7#8]], (parseReadCoils (withCrc (readCoilsBody quiet.cfg)) a).status ≠ .ok) ∧
      ((parseReadCoils (withCrc (readCoilsBody quiet.cfg)) last).status = .ok ∨
        ([[], [7#8]] : List (List Byte)).length + 1 = quiet.cfg.maxRetries) :=
  ⟨ready_quiet, by decide, by decide +kernel⟩

/-! ### The whole machine -/

theorem witness_ResetAbandonsTheCommand :
    (sendingAt .txWaitTc [.reset ResetDraw.zero]).script = [.reset ResetDraw.zero] ∧
    (sendingAt .txWaitTc []).de = true := ⟨rfl, rfl⟩

theorem witness_StepKeepsTheInvariant :
    (∃ s t : State, s.Inv ∧ step s = .next t ∧ t.busy = false ∧ s.busy = true) ∧
    (∃ s t : State, s.Inv ∧ step s = .next t ∧ s.phase = .retrying) := by
  constructor
  · obtain ⟨t, ht, h⟩ := ends (o := step (sendingAt (.txWrite 7) [.sequencer])) (fun t => !t.busy)
      (by decide +kernel)
    exact ⟨_, t, inv_sendingAt_write _, ht, by simpa using h, rfl⟩
  · obtain ⟨t, ht, -⟩ := ends (o := step (betweenAttempts [.clock 50])) (fun _ => true) (by decide +kernel)
    exact ⟨_, t, inv_betweenAttempts _, ht, rfl⟩

theorem witness_DirectionLineIsAlwaysReleased :
    quiet.Inv ∧ (sendingAt .txWaitTc [.sequencer]).Inv :=
  ⟨ready_quiet.1, inv_sendingAt_waitTc _⟩

theorem witness_OnlyTransmittersMoveTheLine :
    ∃ s t : State, s.ready ∧ s.script.all Event.lineSide = true ∧ exec (.receive false 0#16) s = .next t ∧
      t.busy = false := by
  obtain ⟨⟨s, t, h1, h2, h3, h4, -⟩, -⟩ := witness_ReceiveTakesBytesInOrder
  exact ⟨s, t, h1, h2, h3, h4⟩

theorem witness_OnlyTheClockMovesNow :
    ∃ t, perform (.clock 50) (betweenAttempts []) = .next t ∧ step State.reset = .next State.reset :=
  ⟨_, rfl, rfl⟩

theorem witness_ConfigurationStaysAndTraceGrows :
    ∃ t, step (sendingAt .txWaitTc [.sequencer]) = .next t ∧ t.trace = [(.deDown, 7)] := by
  obtain ⟨t, ht, h⟩ := ends (o := step (sendingAt .txWaitTc [.sequencer]))
    (fun t => t.trace == [(.deDown, 7)]) (by decide +kernel)
  exact ⟨t, ht, by simpa using h⟩

/-- A block whose operands are written, and one right after reset. -/
theorem witness_CommandsNeverStopTheMachine :
    ((given onFrame [] [] [.sequencer, .uartRoom false, .clock 3]).ready ∧
      (given onFrame [] [] [.sequencer, .uartRoom false, .clock 3]).script.all Event.lineSide = true) ∧
    (unloaded.ready ∧ unloaded.script.all Event.lineSide = true ∧ unloaded.reqWritten = false) :=
  ⟨⟨ready_given _ _ _ _ (by decide) (by decide), by decide⟩, ready_unloaded, rfl, rfl⟩

theorem witness_EveryOperationCanEnd :
    ((betweenAttempts []).Inv ∧ (betweenAttempts []).busy = true) ∧
    ((waiting 9 []).Inv ∧ (waiting 9 []).busy = true) :=
  ⟨⟨inv_betweenAttempts _, rfl⟩, inv_waiting _ _, rfl⟩

/-- A command in progress. -/
theorem witness_ResultsAreValidOnlyAfterTheirCommands_busy :
    ∃ s t : State, s.ready ∧ s.script.all Event.lineSide = true ∧ exec (.transmit false 0#16) s = .next t ∧
      t.busy = true := by
  obtain ⟨t, ht, h⟩ := ends (o := exec (.transmit false 0#16) (given onFrame [] [] [.sequencer, .timerFirst]))
    (fun t => t.busy) (by decide +kernel)
  exact ⟨_, t, ready_given _ _ _ _ (by decide) (by decide), by decide, ht, h⟩

/-- Commands that end with a result, and one that does not. -/
theorem witness_ResultsAreValidOnlyAfterTheirCommands :
    ∀ i ∈ [Instr.crc16 false 0#16, .parseRc false 0#16, .buildRc false 0#16],
      ∃ s t : State, s.ready ∧ s.script.all Event.lineSide = true ∧ exec i s = .next t ∧ t.status = .ok := by
  intro i hi
  have h : nextHas (exec i (given readFrame maskFrame [] [])) (fun t => t.status == .ok) = true := by
    revert i; decide +kernel
  obtain ⟨t, ht, hs⟩ := exists_of_nextHas h
  exact ⟨_, t, ready_given _ _ _ _ (by decide) (by decide), by decide, ht, by simpa using hs⟩

end Sys2Proof.Tests
end

section
/-! # What a step can do

How a command begins, said once for all ten (`Begins`), and one induction rule for a step (`step_induct`): a property
that the ports, every move, a rejection and the beginning of every command keep is kept by a step. -/

namespace Sys2Proof.Machine

/-! ## Frames are the moves that bring them -/

/-- A request frame's instruction loads the bytes it was decoded from (R74 (b)). -/
theorem exec_of_decode_request {bytes : List Byte} {i : Instr} (h : decode (.request bytes) = .ok i) (s : State) :
    exec i s = loadRequest bytes s := by
  simp only [decode, decodeRequest] at h
  split at h
  · split_ifs at h with hw hr
    · obtain ⟨rfl, rfl, -⟩ := hw
      cases h
      rfl
    · obtain ⟨rfl, rfl, rfl, rfl, rfl⟩ := hr
      cases h
      rfl
  · cases h

/-- A response frame's instruction delivers the bytes it was decoded from (R66 (a)). -/
theorem exec_of_decode_response {bytes : List Byte} {i : Instr} (h : decode (.response bytes) = .ok i) (s : State) :
    exec i s = .next (deliver bytes s) := by
  simp only [decode, decodeResponse] at h
  split at h
  · split_ifs at h with hw
    obtain ⟨rfl, rfl, -⟩ := hw
    cases h
    rfl
  · split_ifs at h with hr
    obtain ⟨rfl, rfl⟩ := hr
    cases h
    rfl
  · cases h

/-- What decodes from a command word is a command. -/
theorem encode_of_decode_command {w : CommandWord} {i : Instr} (h : decode (.command w) = .ok i) :
    ∃ w', encode i = .command w' := by
  simp only [decode, decodeCommand] at h
  split at h
  · cases h
  · split at h <;> cases h <;> exact ⟨_, rfl⟩

/-! ## How a command begins -/

/-- `u` is `s` after a computation of the CRC engine or the codec (R101, R185): the direction line, the transmitter, the
trace and `RSP` are as they were, and `REQ` is as it was or holds a new request of eight bytes. -/
structure Computes (s u : State) : Prop where
  cfg : u.cfg = s.cfg
  de : u.de = s.de
  cmd : u.cmd = s.cmd
  txq : u.txq = s.txq
  txsr : u.txsr = s.txsr
  rsp : u.rsp = s.rsp
  now : u.now = s.now
  trace : u.trace = s.trace
  req : (u.req = s.req ∧ u.reqOver = s.reqOver) ∨ (u.req.length = 8 ∧ u.reqOver = none)

/-- How the command `i` begins, from the state that has accepted it: it starts the transport or a transaction, or it
computes and ends at once with a code R218 allows it. -/
inductive Begins : Instr → State → State → Prop
  | transmit {st ch s} : Begins (.transmit st ch) s (startTransmit s)
  | receive {st ch s} : Begins (.receive st ch) s (startReceive s)
  | exchange {st ch s} : Begins (.exchange st ch) s (startTransmit s)
  | writeCoil {st ch s} : Begins (.writeCoil st ch) s { s with phase := .building }
  | readCoils {st ch s} : Begins (.readCoils st ch) s { s with phase := .building }
  | compute {i s v c} (hv : Computes s v) (hc : statusCode c ∈ allowedCodes i) : Begins i s (finish c v)

@[simp] theorem length_withCrc (body : List Byte) : (withCrc body).length = body.length + 2 := by simp [withCrc]

theorem validateWriteCoil_code (request rsp : List Byte) (st : Bool) (ch : Word) :
    statusCode (validateWriteCoil request rsp).status ∈ allowedCodes (.validateWc st ch) := by
  simp only [validateWriteCoil]
  split_ifs <;> simp [allowedCodes, statusCode]

theorem parseReadCoils_code (request rsp : List Byte) (st : Bool) (ch : Word) :
    statusCode (parseReadCoils request rsp).status ∈ allowedCodes (.parseRc st ch) := by
  simp only [parseReadCoils]
  split_ifs <;> simp [allowedCodes, statusCode]

/-- `PARSE_RC` writes `RES8` beside the accumulator, whatever its verdict (R178). -/
theorem computes_parse (v : Verdict) (s : State) :
    Computes s (if v.status = .ok then { noteCrc v { s with phase := .compute } with res8 := coilBitmask s.rsp }
      else scrambleRes8 (noteCrc v { s with phase := .compute })) := by
  split <;> exact ⟨rfl, rfl, rfl, rfl, rfl, rfl, rfl, rfl, .inl ⟨rfl, rfl⟩⟩

/-- Every command is accepted and begins in one of these ways. -/
theorem exec_begins {i : Instr} {w : CommandWord} (hi : encode i = .command w) :
    ∃ body, (∀ s, exec i s = runCommand w body s) ∧ ∀ s, Begins i s (body s) := by
  cases i with
  | crc16 st ch =>
    cases hi
    refine ⟨_, fun s => by unfold exec execCrc16; rfl, fun s => .compute ?_ (by simp [allowedCodes, statusCode])⟩
    exact ⟨rfl, rfl, rfl, rfl, rfl, rfl, rfl, rfl, .inl ⟨rfl, rfl⟩⟩
  | transmit => cases hi; exact ⟨_, fun _ => rfl, fun _ => .transmit⟩
  | receive => cases hi; exact ⟨_, fun _ => rfl, fun _ => .receive⟩
  | exchange => cases hi; exact ⟨_, fun _ => rfl, fun _ => .exchange⟩
  | buildWc st ch =>
    cases hi
    refine ⟨_, fun s => by unfold exec execBuildWc; rfl, fun s => ?_⟩
    split
    · exact .compute ⟨rfl, rfl, rfl, rfl, rfl, rfl, rfl, rfl, .inr ⟨by simp [writeCoilBody], rfl⟩⟩
        (by simp [allowedCodes, statusCode])
    · exact .compute ⟨rfl, rfl, rfl, rfl, rfl, rfl, rfl, rfl, .inl ⟨rfl, rfl⟩⟩
        (by simp [allowedCodes, statusCode])
  | buildRc st ch =>
    cases hi
    refine ⟨_, fun s => by unfold exec execBuildRc; rfl, fun s => .compute ?_ (by simp [allowedCodes, statusCode])⟩
    exact ⟨rfl, rfl, rfl, rfl, rfl, rfl, rfl, rfl, .inr ⟨by simp [readCoilsBody], rfl⟩⟩
  | validateWc st ch =>
    cases hi
    refine ⟨_, fun s => by unfold exec execValidateWc; rfl, fun s => .compute ?_ (validateWriteCoil_code _ _ st ch)⟩
    exact ⟨rfl, rfl, rfl, rfl, rfl, rfl, rfl, rfl, .inl ⟨rfl, rfl⟩⟩
  | parseRc st ch =>
    cases hi
    exact ⟨_, fun s => by unfold exec execParseRc; rfl,
      fun s => .compute (computes_parse _ s) (parseReadCoils_code _ _ st ch)⟩
  | writeCoil => cases hi; exact ⟨_, fun s => by unfold exec execWriteCoil; rfl, fun _ => .writeCoil⟩
  | readCoils => cases hi; exact ⟨_, fun s => by unfold exec execReadCoils; rfl, fun _ => .readCoils⟩
  | frameWriteCoilRequest | frameReadCoilsRequest | frameWriteCoilResponse | frameReadCoilsResponse => cases hi

/-- What a command that answers an idle block has done: accepted under a configuration within R8, begun, and run. -/
theorem exec_next {i : Instr} {w : CommandWord} {s t : State} (hi : encode i = .command w) (hb : s.busy = false)
    (h : exec i s = .next t) :
    s.cfg.ok = true ∧ ∃ u, Begins i (accept w s) u ∧ drive s.script u = .next t := by
  obtain ⟨body, hrun, hbegin⟩ := exec_begins hi
  rw [hrun] at h
  obtain ⟨hc, hd⟩ := runCommand_next hb h
  exact ⟨hc, _, hbegin _, hd⟩

/-! ## Induction over a run and over a step -/

/-- What every move keeps, a reset and a host's load among them, a run over the script keeps. -/
theorem drive_induct_moves (P : State → Prop) (hscript : ∀ s es, P s → P { s with script := es })
    (hmove : ∀ e s t, P s → perform e s = .next t → P t) (es : List Event) {s t : State} (hs : P s)
    (h : drive es s = .next t) : P t := by
  induction es generalizing s with
  | nil =>
    simp only [drive_nil, Host.Outcome.next.injEq] at h
    exact h ▸ hscript s [] hs
  | cons e es ih =>
    cases hb : s.busy with
    | false =>
      rw [drive_idle hb, Host.Outcome.next.injEq] at h
      exact h ▸ hscript s _ hs
    | true =>
      rw [drive, if_pos hb] at h
      split at h
      · exact ih (hmove e s _ hs ‹_›) h
      · cases h
      · cases h

/-- What the move at the head of the script can do: it is performed, or it presents to an idle block a command that is
rejected (R73) or run (R22). -/
theorem fetchAndRun_cases {e : Event} {s t : State} (h : fetchAndRun e s = .next t) :
    perform e s = .next t ∨
    ∃ w tmo data, e = .hostCommand w tmo data ∧ s.busy = false ∧
      (t = rejectCommand s ∨
        ∃ i w', encode i = .command w' ∧ exec i { s with tmoIn := tmo, dataIn := data } = .next t) := by
  cases e with
  | hostCommand w tmo data =>
    simp only [fetchAndRun, acceptWord] at h
    split at h
    · exact .inl h
    · refine .inr ⟨w, tmo, data, rfl, by simpa using ‹¬ s.busy = true›, ?_⟩
      split at h
      · obtain ⟨w', hw⟩ := encode_of_decode_command ‹_›
        exact .inr ⟨_, w', hw, h⟩
      · cases h
        exact .inl rfl
  | hostRequest bytes =>
    simp only [fetchAndRun] at h
    split at h
    · exact .inl ((exec_of_decode_request ‹_› s).symm.trans h)
    · exact .inl h
  | line bytes =>
    simp only [fetchAndRun] at h
    split at h
    · exact .inl ((exec_of_decode_response ‹_› s).symm.trans h)
    · exact .inl h
  | hostResponse | reset | uartRoom | uartLoad | uartShift | clock | sequencer | timerFirst => exact .inl h

/-- The induction over a step, packaged once. -/
theorem step_induct (P : State → Prop)
    (hports : ∀ s es tmo data, P s → P { s with script := es, tmoIn := tmo, dataIn := data })
    (hmove : ∀ e s t, P s → perform e s = .next t → P t)
    (hreject : ∀ s, s.busy = false → P s → P (rejectCommand s))
    (hbegin : ∀ i w s u, Begins i (accept w s) u → s.busy = false → s.cfg.ok = true → P s → P u)
    {s t : State} (hs : P s) (h : step s = .next t) : P t := by
  unfold step at h
  split at h
  case h_1 =>
    cases h
    exact hs
  case h_2 e es _ =>
    obtain h | ⟨w, tmo, data, -, hb, rfl | ⟨i, w', hi, h⟩⟩ := fetchAndRun_cases h
    · exact hmove e _ _ (hports s es s.tmoIn s.dataIn hs) h
    · exact hreject _ hb (hports s es s.tmoIn s.dataIn hs)
    · obtain ⟨hc, u, hu, hd⟩ := exec_next (s := { s with script := es, tmoIn := tmo, dataIn := data }) hi hb h
      have hP := hbegin i w' _ u hu hb hc (hports s es tmo data hs)
      exact drive_induct_moves P (fun s es hs => hports s es s.tmoIn s.dataIn hs) hmove _ hP hd

end Sys2Proof.Machine
end

section
/-! # The invariant, phase by phase

`State.Inv` speaks of all phases at once. Here its content is sorted by phase: what an operation in progress keeps
whatever its phase (`Underway`), and what each transport phase adds (`LinePhase.Holds`). Each phase function then has
one lemma. -/

namespace Sys2Proof.Machine

variable {s : State}

/-- Receive mode, with nothing in the transmitter (R21, R27). -/
def State.Quiet (s : State) : Prop := s.de = false ∧ s.txq = [] ∧ s.txsr = none

/-- The buffers keep their capacities (R29, R30, C12 (b)). -/
def State.Fits (s : State) : Prop :=
  s.req.length ≤ s.cfg.txCap ∧ s.rsp.length ≤ s.cfg.rxCap ∧
  ∀ bytes, s.reqOver = some bytes → s.cfg.txCap < bytes.length

/-- A transaction's request stands in `REQ`, and the attempt number is within its bounds (R65, R193). -/
def State.Attempting (s : State) : Prop :=
  (1 ≤ s.att ∧ s.att ≤ s.cfg.maxRetries) ∧ s.req.length = 8 ∧ s.reqOver = none

/-- What holds of an operation in progress, whatever its phase. -/
def State.Underway (s : State) : Prop :=
  s.busy = true ∧ s.done = false ∧ s.cfg.ok = true ∧ s.Fits ∧ (s.phase.inTransaction = true → s.Attempting)

/-- The request being sent passed the length check and is `REQ` itself (R122). -/
def State.Sendable (s : State) : Prop := 1 ≤ s.req.length ∧ s.reqOver = none

/-- A byte is still in the transmitter, or the hold runs from the last `TX` event (R229). -/
def State.HoldPending (s : State) : Prop := s.txq ≠ [] ∨ s.txsr ≠ none ∨ s.timers.hold ≠ none

/-- What the invariant says of a transport phase. -/
def LinePhase.Holds : LinePhase → State → Prop
  | .txFlush, s => s.Quiet ∧ s.Sendable
  | .txAssert, s => s.Quiet ∧ s.Sendable
  | .txSettle, s => s.de = true ∧ s.Sendable ∧ s.timers.settle ≠ none
  | .txWrite i, s => s.de = true ∧ s.Sendable ∧ s.timers.txBudget ≠ none ∧ (i = 0 ∨ s.HoldPending)
  | .txWaitTc, s => s.de = true ∧ s.Sendable ∧ s.timers.txBudget ≠ none ∧ s.HoldPending
  | .txHold, s => s.de = true ∧ s.Sendable ∧ s.timers.hold ≠ none ∧ s.txq = [] ∧ s.txsr = none
  | .txRelease, s => s.de = true ∧ s.Sendable ∧ s.txq = [] ∧ s.txsr = none
  | .rxWaitFirst, s => s.Quiet ∧ (s.timers.first ≠ none → s.rsp = [])
  | .rxCollect, s => s.Quiet ∧ s.timers.idle ≠ none ∧ 1 ≤ s.rsp.length ∧ s.rsp.length < s.cfg.rxCap

theorem State.Underway.cfg_ok (hu : s.Underway) : s.cfg.ok = true := by
  obtain ⟨-, -, hc, -⟩ := hu
  exact hc

theorem State.Underway.fits (hu : s.Underway) : s.Fits := by
  obtain ⟨-, -, -, hf, -⟩ := hu
  exact hf

theorem State.Underway.attempting (hu : s.Underway) (hp : s.phase.inTransaction = true) : s.Attempting := by
  obtain ⟨-, -, -, -, ha⟩ := hu
  exact ha hp

/-! ## What the invariant gives -/

theorem State.Inv.fits (h : s.Inv) : s.Fits := ⟨h.req_fits, h.rsp_fits, h.over_long⟩

theorem State.Inv.attempting (h : s.Inv) (hp : s.phase.inTransaction = true) : s.Attempting :=
  ⟨h.attempt hp, h.request hp⟩

theorem State.Inv.underway (h : s.Inv) (hp : s.phase ≠ .idle) : s.Underway :=
  have hb := h.busy_iff.mpr hp
  ⟨hb, h.not_done hb, h.cfg_ok hb, h.fits, h.attempting⟩

/-- The phases that do not drive the line find it released and the transmitter empty. -/
theorem State.Inv.quiet (h : s.Inv) (hp : s.phase.drives = false) : s.Quiet :=
  have hd : s.de = false := h.de_eq.trans hp
  ⟨hd, h.tx_empty hd⟩

theorem State.Inv.holds (h : s.Inv) {p : LinePhase} (hp : linePhase s.phase = some p) : p.Holds s := by
  have hde : s.de = p.drives := by rw [h.de_eq, Phase.drives, hp]; rfl
  have hsend : p.sending = true → s.Sendable := fun hs => h.sending (by rw [hp]; exact hs)
  have hquiet : p.drives = false → s.Quiet := fun hd => h.quiet (by rw [Phase.drives, hp]; exact hd)
  cases p with
  | txFlush => exact ⟨hquiet rfl, hsend rfl⟩
  | txAssert => exact ⟨hquiet rfl, hsend rfl⟩
  | txSettle => exact ⟨hde, hsend rfl, h.settle_runs hp⟩
  | txWrite i =>
    refine ⟨hde, hsend rfl, h.budget_runs i (.inl hp), ?_⟩
    cases i with
    | zero => exact .inl rfl
    | succ i => exact .inr (h.hold_pending i (.inl hp))
  | txWaitTc => exact ⟨hde, hsend rfl, h.budget_runs 0 (.inr hp), h.hold_pending 0 (.inr hp)⟩
  | txHold => exact ⟨hde, hsend rfl, h.hold_runs hp, h.drained (.inl hp)⟩
  | txRelease => exact ⟨hde, hsend rfl, h.drained (.inr hp)⟩
  | rxWaitFirst => exact ⟨hquiet rfl, h.wait_empty hp⟩
  | rxCollect => exact ⟨hquiet rfl, h.idle_runs hp, h.collecting hp⟩

/-! ## What gives the invariant -/

/-- Outside the transport phases nothing is being sent or received. -/
theorem inv_of_no_line (hl : linePhase s.phase = none) (hcomp : s.phase ≠ .compute)
    (hb : s.busy = true ↔ s.phase ≠ .idle) (hrun : s.busy = true → s.done = false ∧ s.cfg.ok = true)
    (ht : s.phase = .idle → s.timers = {}) (hq : s.Quiet) (hf : s.Fits)
    (ha : s.phase.inTransaction = true → s.Attempting)
    (hr : s.phase = .retrying → s.att < s.cfg.maxRetries ∧ s.timers.retry ≠ none) : s.Inv := by
  obtain ⟨hde, htx⟩ := hq
  obtain ⟨hreq, hrsp, hover⟩ := hf
  have absent : ∀ {p}, linePhase s.phase ≠ some p := fun h => by rw [hl] at h; cases h
  exact
    { busy_iff := hb
      no_compute := hcomp
      de_eq := by rw [hde, Phase.drives, hl]; rfl
      tx_empty := fun _ => htx
      not_done := fun h => (hrun h).1
      no_timer := ht
      req_fits := hreq
      rsp_fits := hrsp
      over_long := hover
      cfg_ok := fun h => (hrun h).2
      sending := fun h => by rw [hl] at h; cases h
      wait_empty := fun h => absurd h absent
      collecting := fun h => absurd h absent
      attempt := fun h => (ha h).1
      retry_left := fun h => (hr h).1
      request := fun h => (ha h).2
      settle_runs := fun h => absurd h absent
      budget_runs := fun _ h => absurd h (not_or.mpr ⟨absent, absent⟩)
      hold_pending := fun _ h => absurd h (not_or.mpr ⟨absent, absent⟩)
      drained := fun h => absurd h (not_or.mpr ⟨absent, absent⟩)
      hold_runs := fun h => absurd h absent
      idle_runs := fun h => absurd h absent
      retry_runs := fun h => (hr h).2 }

/-- In `IDLE`: nothing is in progress. -/
theorem inv_of_idle (hp : s.phase = .idle) (hb : s.busy = false) (ht : s.timers = {}) (hq : s.Quiet) (hf : s.Fits) :
    s.Inv :=
  inv_of_no_line (by rw [hp]; rfl) (by simp [hp]) (by simp [hp, hb]) (by simp [hb]) (fun _ => ht) hq hf
    (by simp [hp, Phase.inTransaction]) (by simp [hp])

/-- Between the exchanges of a transaction: `BUILDING`, `RETRYING`, `SUCCEEDED`, `EXHAUSTED`. -/
theorem inv_of_pause (hu : s.Underway) (hq : s.Quiet)
    (hp : s.phase = .building ∨ s.phase = .succeeded ∨ s.phase = .exhausted ∨
      (s.phase = .retrying ∧ s.att < s.cfg.maxRetries ∧ s.timers.retry ≠ none)) : s.Inv := by
  obtain ⟨hb, hd, hc, hf, ha⟩ := hu
  have hretry : s.phase = .retrying → s.att < s.cfg.maxRetries ∧ s.timers.retry ≠ none := fun h => by simpa [h] using hp
  obtain ⟨hl, hcomp, hidle⟩ : linePhase s.phase = none ∧ s.phase ≠ .compute ∧ s.phase ≠ .idle := by
    obtain hp | hp | hp | ⟨hp, -⟩ := hp <;> rw [hp] <;> exact ⟨rfl, by decide, by decide⟩
  exact inv_of_no_line hl hcomp (iff_of_true hb hidle) (fun _ => ⟨hd, hc⟩) (fun h => absurd h hidle) hq hf ha hretry

theorem LinePhase.Holds.de_eq {p : LinePhase} (h : p.Holds s) : s.de = p.drives := by
  cases p with
  | txFlush | txAssert | rxWaitFirst | rxCollect => exact h.1.1
  | txSettle | txWrite | txWaitTc | txHold | txRelease => exact h.1

theorem LinePhase.Holds.tx_empty {p : LinePhase} (h : p.Holds s) (hd : s.de = false) :
    s.txq = [] ∧ s.txsr = none := by
  cases p with
  | txFlush | txAssert | rxWaitFirst | rxCollect => exact h.1.2
  | txSettle | txWrite | txWaitTc | txHold | txRelease => exact absurd (h.1.symm.trans hd) (by decide)

theorem LinePhase.Holds.sendable {p : LinePhase} (h : p.Holds s) (hp : p.sending = true) : s.Sendable := by
  cases p with
  | txFlush | txAssert => exact h.2
  | txSettle | txWrite | txWaitTc | txHold | txRelease => exact h.2.1
  | rxWaitFirst | rxCollect => cases hp

/-- In a transport phase, alone or inside an attempt. -/
theorem inv_of_line {p : LinePhase} (hp : linePhase s.phase = some p) (hu : s.Underway) (hh : p.Holds s) :
    s.Inv := by
  obtain ⟨hb, hd, hc, ⟨hreq, hrsp, hover⟩, ha⟩ := hu
  have other : ∀ q, linePhase q = none → s.phase ≠ q := fun q hq h => by rw [h, hq] at hp; cases hp
  have hidle : s.phase ≠ .idle := other _ rfl
  have hretry : s.phase ≠ .retrying := other _ rfl
  have here : ∀ {q}, linePhase s.phase = some q → p = q := fun h => Option.some.inj (hp.symm.trans h)
  exact
    { busy_iff := iff_of_true hb hidle
      no_compute := other _ rfl
      de_eq := by rw [Phase.drives, hp]; exact hh.de_eq
      tx_empty := hh.tx_empty
      not_done := fun _ => hd
      no_timer := fun h => absurd h hidle
      req_fits := hreq
      rsp_fits := hrsp
      over_long := hover
      cfg_ok := fun _ => hc
      sending := fun h => hh.sendable (by rw [hp] at h; exact h)
      wait_empty := fun h => by cases here h; obtain ⟨-, hempty⟩ := hh; exact hempty
      collecting := fun h => by cases here h; obtain ⟨-, -, hlen⟩ := hh; exact hlen
      attempt := fun h => (ha h).1
      retry_left := fun h => absurd h hretry
      request := fun h => (ha h).2
      settle_runs := fun h => by cases here h; obtain ⟨-, -, hruns⟩ := hh; exact hruns
      budget_runs := by rintro i (h | h) <;> cases here h <;> obtain ⟨-, -, hruns, -⟩ := hh <;> exact hruns
      hold_pending := by
        rintro i (h | h) <;> cases here h <;> obtain ⟨-, -, -, hpend⟩ := hh
        · exact hpend.resolve_left (Nat.succ_ne_zero i)
        · exact hpend
      drained := by
        rintro (h | h) <;> cases here h
        · obtain ⟨-, -, -, hempty⟩ := hh; exact hempty
        · obtain ⟨-, -, hempty⟩ := hh; exact hempty
      hold_runs := fun h => by cases here h; obtain ⟨-, -, hruns, -⟩ := hh; exact hruns
      idle_runs := fun h => by cases here h; obtain ⟨-, hruns, -⟩ := hh; exact hruns
      retry_runs := fun h => absurd h hretry }

end Sys2Proof.Machine
end

section
/-! # Every step keeps the invariant

One lemma per operation of Machine/Ops.lean and Machine/Phases.lean, then the moves, then the step. -/

namespace Sys2Proof.Machine

variable {s : State}

/-! ## How an operation goes on, and how it ends -/

theorem linePhase_enter (p : LinePhase) (s : State) : linePhase (enter p s).phase = some p := by
  rw [enter_phase]; split <;> rfl

theorem State.Underway.enter (hu : s.Underway) (p : LinePhase) : (enter p s).Underway := by
  obtain ⟨hb, hd, hc, hf, ha⟩ := hu
  refine ⟨hb, hd, hc, hf, fun ht => ha ?_⟩
  rw [enter_phase] at ht
  split at ht
  · rw [‹s.phase = _›]; rfl
  · cases ht

/-- What a phase needs holds of the state it is entered from: its name is no part of it. -/
theorem inv_enter {p : LinePhase} (hu : s.Underway) (hh : p.Holds s) : (enter p s).Inv :=
  inv_of_line (linePhase_enter p s) (hu.enter p) (by cases p <;> exact hh)

theorem State.Underway.lowerDe (hu : s.Underway) : (lowerDe s).Underway := by
  simpa [State.Underway, State.Fits, State.Attempting] using hu

theorem State.Underway.writeRsp (hu : s.Underway) {bytes : List Byte} (hb : bytes.length ≤ s.cfg.rxCap) :
    (writeRsp bytes s).Underway := by
  obtain ⟨hb', hd, hc, ⟨hreq, -, hover⟩, ha⟩ := hu
  exact ⟨hb', hd, hc, ⟨hreq, hb, hover⟩, ha⟩

theorem quiet_lowerDe (h : s.txq = [] ∧ s.txsr = none) : (lowerDe s).Quiet := by
  simpa [State.Quiet] using h

theorem inv_finish (st : Status) (hf : s.Fits) (hq : s.txq = [] ∧ s.txsr = none) : (finish st s).Inv :=
  inv_of_idle (by simp) (by simp) (by simp) (by simpa [State.Quiet] using hq) (by simpa [State.Fits] using hf)

theorem inv_attemptFails (hu : s.Underway) (hq : s.Quiet) (ha : s.Attempting) : (attemptFails s).Inv := by
  obtain ⟨hb, hd, hc, hf, -⟩ := hu
  unfold attemptFails
  split
  · exact inv_of_pause ⟨hb, hd, hc, hf, fun _ => ha⟩ hq (.inr (.inr (.inr ⟨rfl, ‹_›, by simp⟩)))
  · exact inv_of_pause ⟨hb, hd, hc, hf, fun _ => ha⟩ hq (.inr (.inr (.inl rfl)))

theorem inv_concludeAttempt (st : Status) (hu : s.Underway) (hq : s.Quiet) (ha : s.Attempting) :
    (concludeAttempt st s).Inv := by
  obtain ⟨hb, hd, hc, hf, hatt⟩ := hu
  unfold concludeAttempt
  split
  · simp only
    split
    · exact inv_of_pause ⟨hb, hd, hc, hf, fun _ => ha⟩ hq (.inr (.inl rfl))
    · exact inv_attemptFails (s := noteCrc _ s) ⟨hb, hd, hc, hf, hatt⟩ hq ha
  · exact inv_attemptFails ⟨hb, hd, hc, hf, hatt⟩ hq ha

theorem inv_endTransport (st : Status) (hu : s.Underway) (hq : s.Quiet) : (endTransport st s).Inv := by
  obtain ⟨p, hp, h⟩ | ⟨-, h⟩ := endTransport_cases st s <;> rw [h]
  · exact inv_concludeAttempt st hu hq (hu.attempting (by rw [hp]; rfl))
  · exact inv_finish st hu.fits hq.2

/-! ## The transport phases -/

theorem inv_failTransmit (hu : s.Underway) (hq : s.Quiet) : (failTransmit s).Inv := by
  unfold failTransmit
  split
  · exact inv_endTransport _ (hu.writeRsp (Nat.zero_le _)) hq
  · exact inv_endTransport _ hu hq

/-- The error exit empties the transmitter and releases the line, wherever it is taken (R133). -/
theorem inv_abortTransmit (hu : s.Underway) : (abortTransmit s).Inv :=
  inv_failTransmit (State.Underway.lowerDe (s := { s with txq := [], txsr := none, timers := {} }) hu)
    (quiet_lowerDe ⟨rfl, rfl⟩)

/-- An operand that passes the length check is `REQ` itself: one that stands beside it is too long (R122, C12 (b)). -/
theorem sendable_of_length_ok (hf : s.Fits)
    (hlen : ¬ ((requestOperand s).length = 0 ∨ s.cfg.txCap < (requestOperand s).length)) : s.Sendable := by
  obtain ⟨-, -, hover⟩ := hf
  cases ho : s.reqOver with
  | none =>
    simp only [requestOperand, ho, Option.getD_none] at hlen
    exact ⟨by omega, ho⟩
  | some bytes =>
    have := hover bytes ho
    simp only [requestOperand, ho, Option.getD_some] at hlen
    omega

theorem inv_startTransmit (hu : s.Underway) (hq : s.Quiet) : (startTransmit s).Inv := by
  unfold startTransmit
  split
  · exact inv_failTransmit hu hq
  · exact inv_enter hu ⟨hq, sendable_of_length_ok hu.fits ‹_›⟩

theorem inv_startReceive (hu : s.Underway) (hq : s.Quiet) : (startReceive s).Inv :=
  inv_enter (s := { s with timers := {} }) hu ⟨hq, fun h => absurd rfl h⟩

theorem inv_takeByte (b : Byte) (rest : List Byte) (hu : s.Underway) (hq : s.Quiet)
    (hroom : s.rsp.length < s.cfg.rxCap) : (takeByte b rest s).Inv := by
  have hlen : (s.rsp ++ [b]).length ≤ s.cfg.rxCap := by simpa using hroom
  have hu' : (storeReceived b rest s).Underway := hu.writeRsp hlen
  unfold takeByte
  simp only
  split
  · exact inv_endTransport _ hu' hq
  · rename_i hne
    refine inv_enter (s := { storeReceived b rest s with timers := _ }) hu' ⟨hq, by simp, by simp, ?_⟩
    exact lt_of_le_of_ne hlen hne

theorem inv_writePhase (i : Nat) (h : s.Inv) (hu : s.Underway) (hh : (LinePhase.txWrite i).Holds s) :
    (writePhase i s).Inv := by
  obtain ⟨hde, hsend, hbudget, hpend⟩ := hh
  unfold writePhase
  split
  · split
    · exact inv_enter (s := uartWrite _ s) hu ⟨hde, hsend, hbudget, .inr (.inl (by simp))⟩
    · split
      · exact inv_abortTransmit hu
      · exact h
  · have hi : i ≠ 0 := by have := hsend.1; omega
    exact inv_enter (s := { s with timers := { s.timers with txBudget := _ } }) hu
      ⟨hde, hsend, by simp, hpend.resolve_left hi⟩

theorem inv_waitTcPhase (h : s.Inv) (hu : s.Underway) (hh : LinePhase.txWaitTc.Holds s) : (waitTcPhase s).Inv := by
  obtain ⟨hde, hsend, -, hpend⟩ := hh
  unfold waitTcPhase
  split
  · rename_i htc
    obtain ⟨hq, hr⟩ : s.txq = [] ∧ s.txsr = none := by simpa [uartTc] using htc
    have hhold : s.timers.hold ≠ none := (hpend.resolve_left (absurd hq)).resolve_left (absurd hr)
    exact inv_enter (s := { s with timers := { s.timers with txBudget := none } }) hu ⟨hde, hsend, hhold, hq, hr⟩
  · split
    · exact inv_abortTransmit hu
    · exact h

theorem inv_releasePhase (hu : s.Underway) (hh : LinePhase.txRelease.Holds s) : (releasePhase s).Inv := by
  obtain ⟨-, -, hempty⟩ := hh
  unfold releasePhase
  split
  · exact inv_startReceive hu.lowerDe (quiet_lowerDe hempty)
  · exact inv_endTransport _ hu.lowerDe (quiet_lowerDe hempty)

theorem inv_waitFirstPhase (h : s.Inv) (hp : linePhase s.phase = some .rxWaitFirst) (hu : s.Underway) :
    (waitFirstPhase s).Inv := by
  obtain ⟨hq, hempty⟩ := h.holds hp
  unfold waitFirstPhase
  split
  · have hu' : (writeRsp [] s).Underway := hu.writeRsp (Nat.zero_le _)
    exact inv_of_line (s := writeRsp [] { s with timers := _ }) hp hu' ⟨hq, fun _ => rfl⟩
  · split
    · obtain ⟨-, -, -, -, -, -, hcap, -⟩ := Config.bounds_of_ok hu.cfg_ok
      have hrsp : s.rsp = [] := hempty (by simp [*])
      exact inv_takeByte _ _ hu hq (by rw [hrsp, List.length_nil]; omega)
    · split
      · exact inv_endTransport _ hu hq
      · exact h

theorem inv_collectPhase (h : s.Inv) (hu : s.Underway) (hh : LinePhase.rxCollect.Holds s) : (collectPhase s).Inv := by
  obtain ⟨hq, -, -, hroom⟩ := hh
  unfold collectPhase
  split
  · exact inv_takeByte _ _ hu hq hroom
  · split
    · exact inv_endTransport _ hu hq
    · exact h

theorem inv_lineStep {p : LinePhase} (h : s.Inv) (hp : linePhase s.phase = some p) : (lineStep p s).Inv := by
  have hu : s.Underway := h.underway (by intro hi; rw [hi] at hp; cases hp)
  have hh := h.holds hp
  cases p with
  | txFlush => exact inv_enter (s := uartFlush s) hu hh
  | txAssert => exact inv_enter (s := raiseDe { s with timers := _ }) hu ⟨rfl, hh.2, by simp⟩
  | txSettle =>
    simp only [lineStep]
    split
    · obtain ⟨hde, hsend, -⟩ := hh
      exact inv_enter (s := { s with timers := _ }) hu ⟨hde, hsend, by simp, .inl rfl⟩
    · exact h
  | txWrite i => exact inv_writePhase i h hu hh
  | txWaitTc => exact inv_waitTcPhase h hu hh
  | txHold =>
    simp only [lineStep]
    split
    · obtain ⟨hde, hsend, -, hempty⟩ := hh
      exact inv_enter hu ⟨hde, hsend, hempty⟩
    · exact h
  | txRelease => exact inv_releasePhase hu hh
  | rxWaitFirst => exact inv_waitFirstPhase h hp hu
  | rxCollect => exact inv_collectPhase h hu hh

/-! ## The states of a transaction -/

theorem inv_beginAttempt {n : Nat} (hu : s.Underway) (hq : s.Quiet) (hn : 1 ≤ n ∧ n ≤ s.cfg.maxRetries)
    (hreq : s.req.length = 8 ∧ s.reqOver = none) : (beginAttempt n s).Inv := by
  obtain ⟨hb, hd, hc, hf, -⟩ := hu
  exact inv_startTransmit (s := { s with att := n, phase := .attempting .txFlush, timers := {} })
    ⟨hb, hd, hc, hf, fun _ => ⟨hn, hreq⟩⟩ hq

/-- `REQ` has room for a request of eight bytes under any configuration within R8. -/
theorem fits_of_request (hc : s.cfg.ok = true) (hrsp : s.rsp.length ≤ s.cfg.rxCap)
    (hreq : s.req.length = 8 ∧ s.reqOver = none) : s.Fits := by
  obtain ⟨-, -, -, -, -, -, -, hcap⟩ := Config.bounds_of_ok hc
  exact ⟨by omega, hrsp, by simp [hreq.2]⟩

/-- The first attempt of a transaction, with the request just built. -/
theorem inv_firstAttempt (hu : s.Underway) (hq : s.Quiet) (hp : s.phase.inTransaction = false) {body : List Byte}
    (hbody : body.length = 6) : (beginAttempt 1 (buildRequest body s)).Inv := by
  obtain ⟨hb, hd, hc, ⟨-, hrsp, -⟩, -⟩ := hu
  obtain ⟨-, hmax, -⟩ := Config.bounds_of_ok hc
  have hreq : (buildRequest body s).req.length = 8 ∧ (buildRequest body s).reqOver = none :=
    ⟨by simp [hbody], rfl⟩
  have hf : (buildRequest body s).Fits := fits_of_request hc hrsp hreq
  refine inv_beginAttempt (s := buildRequest body s) ⟨hb, hd, hc, hf, ?_⟩ hq ⟨Nat.le_refl 1, hmax⟩ hreq
  simp [hp]

theorem inv_sequencerStep (h : s.Inv) : (sequencerStep s).Inv := by
  cases hp : s.phase with
  | idle | compute => rwa [sequencerStep, hp]
  | transport p | attempting p =>
    rw [sequencerStep, hp]
    exact inv_lineStep h (by rw [hp]; rfl)
  | building =>
    have hu : s.Underway := h.underway (by simp [hp])
    have hq : s.Quiet := h.quiet (by rw [hp]; rfl)
    rw [sequencerStep, hp]
    simp only [buildingPhase]
    split_ifs
    · exact inv_firstAttempt hu hq (by rw [hp]; rfl) rfl
    · exact inv_firstAttempt hu hq (by rw [hp]; rfl) rfl
    · exact inv_finish _ h.fits hq.2
  | retrying =>
    obtain ⟨-, hreq⟩ := h.attempting (by rw [hp]; rfl)
    have hu : s.Underway := h.underway (by simp [hp])
    have hq : s.Quiet := h.quiet (by rw [hp]; rfl)
    rw [sequencerStep, hp]
    simp only
    split
    · exact inv_beginAttempt hu hq ⟨by omega, h.retry_left hp⟩ hreq
    · exact h
  | succeeded =>
    rw [sequencerStep, hp]
    exact inv_finish _ h.fits (h.quiet (by rw [hp]; rfl)).2
  | exhausted =>
    have hempty := (h.quiet (by rw [hp]; rfl)).2
    rw [sequencerStep, hp]
    simp only [exhaustedPhase]
    split
    · exact inv_finish (s := scrambleRes8 s) _ h.fits hempty
    · exact inv_finish _ h.fits hempty

/-! ## The other moves -/

/-- The invariant does not speak of the receive path, the clock, the transmitter's room, the ports or the script. -/
theorem State.Inv.surroundings (h : s.Inv) (rxq : List Byte) (now : Nat) (room : Bool) (es : List Event) (tmo : Nat)
    (data : List Byte) :
    State.Inv { s with rxq := rxq, now := now, txRoom := room, script := es, tmoIn := tmo, dataIn := data } := by
  obtain ⟨⟩ := h
  constructor <;> assumption

theorem inv_timerFirstStep (h : s.Inv) : (timerFirstStep s).Inv := by
  obtain ⟨hc, ht⟩ | ⟨-, ht⟩ := timerFirstStep_cases s <;> rw [ht]
  · have hp := ((budgetCoincides_iff s).mp hc).1
    exact inv_abortTransmit (h.underway (by intro hi; rw [hi] at hp; cases hp))
  · exact inv_sequencerStep h

theorem inv_advanceClock (n : Nat) (h : s.Inv) : (advanceClock n s).Inv := by
  have hn : State.Inv { s with now := s.now + n } := h.surroundings s.rxq (s.now + n) s.txRoom s.script s.tmoIn s.dataIn
  obtain ⟨-, ht⟩ | ⟨-, ht⟩ := advanceClock_cases n s <;> rw [ht]
  · exact hn
  · exact inv_sequencerStep hn

theorem inv_deliver (bytes : List Byte) (h : s.Inv) : (deliver bytes s).Inv := by
  unfold deliver
  split
  · exact h
  · exact h.surroundings _ s.now s.txRoom s.script s.tmoIn s.dataIn

/-- While a byte is in the transmitter, the phase is one from `TX_SETTLE` to `TX_WAIT_TC`; each allows any move of the
transmitter that leaves a byte there or the hold running. -/
theorem inv_transmitting (h : s.Inv) (hne : ¬ (s.txq = [] ∧ s.txsr = none)) {txq : List Byte} {txsr : Option Byte}
    {hold : Option Nat} (trace : List (WireEvent × Nat)) (hpend : txq ≠ [] ∨ txsr ≠ none ∨ hold ≠ none) :
    State.Inv { s with txq := txq, txsr := txsr, timers := { s.timers with hold := hold }, trace := trace } := by
  cases hp : linePhase s.phase with
  | none => exact absurd (h.quiet (by rw [Phase.drives, hp]; rfl)).2 hne
  | some p =>
    have hu : s.Underway := h.underway (by intro hi; rw [hi] at hp; cases hp)
    have hh := h.holds hp
    refine inv_of_line (p := p) hp hu ?_
    cases p with
    | txFlush | txAssert | rxWaitFirst | rxCollect => exact absurd hh.1.2 hne
    | txSettle => exact hh
    | txWrite i =>
      obtain ⟨hde, hsend, hbudget, -⟩ := hh
      exact ⟨hde, hsend, hbudget, .inr hpend⟩
    | txWaitTc =>
      obtain ⟨hde, hsend, hbudget, -⟩ := hh
      exact ⟨hde, hsend, hbudget, hpend⟩
    | txHold =>
      obtain ⟨-, -, -, hempty⟩ := hh
      exact absurd hempty hne
    | txRelease =>
      obtain ⟨-, -, hempty⟩ := hh
      exact absurd hempty hne

theorem inv_uartLoad (h : s.Inv) : (uartLoad s).Inv := by
  unfold uartLoad
  split
  · rename_i hq _
    exact inv_transmitting h (by simp [hq]) s.trace (hold := s.timers.hold) (.inr (.inl (by simp)))
  · exact h

theorem inv_uartShift (h : s.Inv) : (uartShift s).Inv := by
  unfold uartShift
  split
  · rename_i hr
    exact inv_transmitting h (by simp [hr]) _ (.inr (.inr (by simp)))
  · exact h

theorem inv_loadRequest {t : State} (bytes : List Byte) (h : s.Inv) (ht : loadRequest bytes s = .next t) : t.Inv := by
  unfold loadRequest at ht
  split_ifs at ht with hb hc hlen <;> cases ht
  all_goals
    have hi := h.idle_of_not_busy (by simpa using hb)
    have hq := h.quiet (by rw [hi]; rfl)
    obtain ⟨hreq, hrsp, -⟩ := h.fits
  · exact inv_of_idle hi (by simpa using hb) (h.no_timer hi) hq ⟨hlen, hrsp, by simp⟩
  · refine inv_of_idle hi (by simpa using hb) (h.no_timer hi) hq ⟨hreq, hrsp, fun long ho => ?_⟩
    cases ho
    simpa using hlen

theorem inv_loadResponse {t : State} (bytes : List Byte) (h : s.Inv) (ht : loadResponse bytes s = .next t) : t.Inv := by
  unfold loadResponse at ht
  split_ifs at ht with hb hlen
  cases ht
  have hi := h.idle_of_not_busy (by simpa using hb)
  have hq : s.Quiet := h.quiet (by rw [hi]; rfl)
  exact inv_of_idle hi (by simpa using hb) (h.no_timer hi) hq ⟨h.req_fits, hlen, h.over_long⟩

/-- The state after a reset meets the invariant whatever the draw: what it draws is cut to the capacities (R29, R30). -/
theorem inv_resetTo (c : Config) (u : ResetDraw) : (State.resetTo c u).Inv :=
  inv_of_idle rfl rfl rfl ⟨rfl, rfl, rfl⟩
    ⟨List.length_take_le _ _, List.length_take_le _ _, by simp [State.resetTo]⟩

theorem inv_resetBlock (u : ResetDraw) (s : State) : (resetBlock u s).Inv :=
  inv_of_idle rfl rfl rfl ⟨rfl, rfl, rfl⟩ (inv_resetTo s.cfg u).fits

theorem inv_perform (e : Event) {t : State} (h : s.Inv) (ht : perform e s = .next t) : t.Inv := by
  cases e with
  | hostCommand => cases ht; exact h
  | hostRequest bytes => exact inv_loadRequest bytes h ht
  | hostResponse bytes => exact inv_loadResponse bytes h ht
  | reset u => cases ht; exact inv_resetBlock u s
  | line bytes => cases ht; exact inv_deliver bytes h
  | uartRoom r => cases ht; exact h.surroundings s.rxq s.now r s.script s.tmoIn s.dataIn
  | uartLoad => cases ht; exact inv_uartLoad h
  | uartShift => cases ht; exact inv_uartShift h
  | clock n => cases ht; exact inv_advanceClock n h
  | sequencer => cases ht; exact inv_sequencerStep h
  | timerFirst => cases ht; exact inv_timerFirstStep h

/-! ## Commands -/

theorem inv_rejectCommand (hb : s.busy = false) (h : s.Inv) : (rejectCommand s).Inv :=
  have hi := h.idle_of_not_busy hb
  inv_of_idle hi hb (h.no_timer hi) (h.quiet (by rw [hi]; rfl)) h.fits

/-- A computation keeps the capacities: it leaves `REQ` alone or builds a request of eight bytes. -/
theorem Computes.fits {u : State} (hu : Computes s u) (hc : s.cfg.ok = true) (hf : s.Fits) : u.Fits := by
  obtain ⟨hreq, hrsp, hover⟩ := hf
  have hrsp' : u.rsp.length ≤ u.cfg.rxCap := by rw [hu.rsp, hu.cfg]; exact hrsp
  obtain ⟨hr, ho⟩ | hnew := hu.req
  · exact ⟨by rw [hr, hu.cfg]; exact hreq, hrsp', by rw [ho, hu.cfg]; exact hover⟩
  · exact fits_of_request (by rw [hu.cfg]; exact hc) hrsp' hnew

/-- A command begins in a state that meets the invariant. -/
theorem inv_begins {i : Instr} {w : CommandWord} {u : State} (hb : s.busy = false) (hc : s.cfg.ok = true) (h : s.Inv)
    (hu : Begins i (accept w s) u) : u.Inv := by
  have hi := h.idle_of_not_busy hb
  have hq : s.Quiet := h.quiet (by rw [hi]; rfl)
  have hw : (accept w s).Underway := ⟨rfl, rfl, hc, h.fits, by simp [hi, Phase.inTransaction]⟩
  cases hu with
  | transmit | exchange => exact inv_startTransmit hw hq
  | receive => exact inv_startReceive hw hq
  | writeCoil | readCoils =>
    have hu : State.Underway { accept w s with phase := .building } := ⟨rfl, rfl, hc, h.fits, fun ht => by cases ht⟩
    exact inv_of_pause hu hq (.inl rfl)
  | compute hv =>
    obtain ⟨-, hqueue, hshift⟩ := hq
    exact inv_finish _ (hv.fits hc h.fits) ⟨hv.txq.trans hqueue, hv.txsr.trans hshift⟩

/-- Settles O51: the reset state is one that `resetTo` gives. -/
theorem resetMeetsTheInvariant : Obligations.ResetMeetsTheInvariant := inv_resetTo _ _

/-- Settles O52, by the induction over a step: the ports, every move, a rejection and the beginning of every command
keep the invariant. -/
theorem stepKeepsTheInvariant : Obligations.StepKeepsTheInvariant := by
  intro s t hs ht
  exact step_induct State.Inv (fun s es tmo data h => h.surroundings s.rxq s.now s.txRoom es tmo data)
    (fun e _ _ h he => inv_perform e h he) (fun _ hb h => inv_rejectCommand hb h)
    (fun _ _ _ _ hu hb hc h => inv_begins hb hc h hu) hs ht

end Sys2Proof.Machine
end

section
/-! # A step and the instruction it runs; the clock, the configuration and the trace -/

namespace Sys2Proof.Machine

/-! ## A step runs what is presented -/

/-- Settles O6: each clause is the move at the head of the script, which runs what its bytes decode to. -/
theorem stepRunsTheDecodedInstruction : Obligations.StepRunsTheDecodedInstruction := by
  refine ⟨fun s w tmo data es i hs hb hi => ?_, fun s bytes es i hs hi => ?_, fun s bytes es i hs hi => ?_⟩
  · simp [step, hs, fetchAndRun, acceptWord, hb, hi]
  · simp [step, hs, fetchAndRun, hi]
  · simp [step, hs, fetchAndRun, hi]

/-- A command presented to a busy block is turned away before anything else (R22). -/
theorem exec_busy {i : Instr} {w : CommandWord} {s : State} (hi : encode i = .command w) (hb : s.busy = true) :
    exec i s = .next s := by
  obtain ⟨body, hrun, -⟩ := exec_begins hi
  rw [hrun, runCommand, if_pos hb]

/-- Settles O8: every command is a `runCommand`, and the port looks at `BUSY` before it decodes. -/
theorem busyBlockTurnsCommandsAway : Obligations.BusyBlockTurnsCommandsAway := by
  refine fun s hb => ⟨fun st ch => ?_, fun w tmo data es hs => ?_⟩
  · have away : ∀ {i w}, encode i = .command w → exec i s = .next s := fun hi => exec_busy hi hb
    exact ⟨away rfl, away rfl, away rfl, away rfl, away rfl, away rfl, away rfl, away rfl, away rfl, away rfl⟩
  · simp [step, hs, fetchAndRun, acceptWord, hb]

/-! ## What every move leaves: the configuration and the clock -/

/-- What a host's load can do to the rest of the state: nothing. -/
theorem loadRequest_leaves {bytes : List Byte} {s t : State} (h : loadRequest bytes s = .next t) :
    t.cfg = s.cfg ∧ t.now = s.now ∧ t.de = s.de ∧ t.trace = s.trace := by
  unfold loadRequest at h
  split_ifs at h <;> cases h <;> exact ⟨rfl, rfl, rfl, rfl⟩

theorem loadResponse_leaves {bytes : List Byte} {s t : State} (h : loadResponse bytes s = .next t) :
    t.cfg = s.cfg ∧ t.now = s.now ∧ t.de = s.de ∧ t.trace = s.trace := by
  unfold loadResponse at h
  split_ifs at h
  cases h
  exact ⟨rfl, rfl, rfl, rfl⟩

/-- The ticks by which a move advances `NOW`. -/
def Event.ticks : Event → Nat
  | .clock n => n
  | _ => 0

theorem advanceClock_leaves (n : Nat) (s : State) :
    (advanceClock n s).cfg = s.cfg ∧ (advanceClock n s).now = s.now + n := by
  obtain ⟨-, h⟩ | ⟨-, h⟩ := advanceClock_cases n s <;> rw [h]
  · exact ⟨rfl, rfl⟩
  · have same := sequencerStep_same { s with now := s.now + n }
    exact ⟨same.cfg, same.now⟩

theorem perform_leaves {e : Event} {s t : State} (h : perform e s = .next t) :
    t.cfg = s.cfg ∧ t.now = s.now + e.ticks := by
  cases e with
  | hostCommand => cases h; exact ⟨rfl, rfl⟩
  | hostRequest bytes =>
    obtain ⟨hcfg, hnow, -⟩ := loadRequest_leaves h
    exact ⟨hcfg, hnow⟩
  | hostResponse bytes =>
    obtain ⟨hcfg, hnow, -⟩ := loadResponse_leaves h
    exact ⟨hcfg, hnow⟩
  | reset u => cases h; exact ⟨rfl, rfl⟩
  | line bytes => cases h; exact ⟨deliver_cfg _ _, deliver_now _ _⟩
  | uartRoom r => cases h; exact ⟨rfl, rfl⟩
  | uartLoad => cases h; exact ⟨uartLoad_cfg s, uartLoad_now s⟩
  | uartShift => cases h; exact ⟨uartShift_cfg s, uartShift_now s⟩
  | clock n => cases h; exact advanceClock_leaves n s
  | sequencer => cases h; exact ⟨(sequencerStep_same s).cfg, (sequencerStep_same s).now⟩
  | timerFirst => cases h; exact ⟨(timerFirstStep_same s).cfg, (timerFirstStep_same s).now⟩

theorem begins_leaves {i : Instr} {s u : State} (h : Begins i s u) : u.cfg = s.cfg ∧ u.now = s.now := by
  cases h with
  | transmit | exchange => exact ⟨(startTransmit_same s).cfg, (startTransmit_same s).now⟩
  | receive | writeCoil | readCoils => exact ⟨rfl, rfl⟩
  | compute hv => exact ⟨(finish_cfg _ _).trans hv.cfg, (finish_now _ _).trans hv.now⟩

/-- Settles O55: each move advances `NOW` by its ticks, and a step is made of moves and of commands' beginnings. -/
theorem onlyTheClockMovesNow : Obligations.OnlyTheClockMovesNow := by
  refine ⟨fun e s t h => ?_, fun s t h => ?_⟩
  · rw [(perform_leaves h).2]
    cases e <;> rfl
  · refine step_induct (fun u => s.now ≤ u.now) (fun _ _ _ _ hu => hu) (fun e u v hu he => ?_) (fun _ _ hu => hu)
      (fun i w u v hv _ _ hu => ?_) (Nat.le_refl _) h
    · have := (perform_leaves he).2
      omega
    · rw [(begins_leaves hv).2]
      exact hu

/-! ## The trace only grows (R58) -/

@[simp] theorem attemptFails_trace (s : State) : (attemptFails s).trace = s.trace := by
  unfold attemptFails; split <;> rfl

@[simp] theorem concludeAttempt_trace (st : Status) (s : State) : (concludeAttempt st s).trace = s.trace := by
  unfold concludeAttempt
  split
  · simp only
    split
    · rfl
    · exact attemptFails_trace _
  · exact attemptFails_trace s

theorem trace_finish (st : Status) (s : State) : s.trace <+: (finish st s).trace := by simp

theorem trace_lowerDe (s : State) : s.trace <+: (lowerDe s).trace := by simp

theorem trace_endTransport (st : Status) (s : State) : s.trace <+: (endTransport st s).trace := by
  obtain ⟨_, _, h⟩ | ⟨_, h⟩ := endTransport_cases st s <;> rw [h]
  · rw [concludeAttempt_trace]
  · exact trace_finish st s

theorem trace_failTransmit (s : State) : s.trace <+: (failTransmit s).trace := by
  unfold failTransmit
  split
  · exact trace_endTransport _ (writeRsp [] s)
  · exact trace_endTransport _ s

theorem trace_abortTransmit (s : State) : s.trace <+: (abortTransmit s).trace :=
  (trace_lowerDe { s with txq := [], txsr := none, timers := {} }).trans (trace_failTransmit _)

theorem trace_startTransmit (s : State) : s.trace <+: (startTransmit s).trace := by
  unfold startTransmit
  split
  · exact trace_failTransmit s
  · exact List.prefix_rfl

theorem trace_beginAttempt (n : Nat) (s : State) : s.trace <+: (beginAttempt n s).trace :=
  trace_startTransmit { s with att := n, phase := .attempting .txFlush, timers := {} }

theorem trace_takeByte (b : Byte) (rest : List Byte) (s : State) : s.trace <+: (takeByte b rest s).trace := by
  have stored : s.trace <+: (storeReceived b rest s).trace := by simp
  unfold takeByte
  simp only
  split
  · exact stored.trans (trace_endTransport _ _)
  · exact stored

theorem trace_lineStep (p : LinePhase) (s : State) : s.trace <+: (lineStep p s).trace := by
  cases p with
  | txFlush | txAssert => simp [lineStep]
  | txSettle | txHold => simp only [lineStep]; split <;> exact List.prefix_rfl
  | txWrite i =>
    simp only [lineStep, writePhase]
    split_ifs
    · exact List.prefix_rfl
    · exact trace_abortTransmit s
    · exact List.prefix_rfl
    · exact List.prefix_rfl
  | txWaitTc =>
    simp only [lineStep, waitTcPhase]
    split_ifs
    · exact List.prefix_rfl
    · exact trace_abortTransmit s
    · exact List.prefix_rfl
  | txRelease =>
    simp only [lineStep, releasePhase]
    split
    · exact trace_lowerDe s
    · exact (trace_lowerDe s).trans (trace_endTransport _ _)
  | rxWaitFirst =>
    simp only [lineStep, waitFirstPhase]
    split
    · exact List.prefix_rfl
    · split
      · exact trace_takeByte _ _ s
      · split
        · exact trace_endTransport _ s
        · exact List.prefix_rfl
  | rxCollect =>
    simp only [lineStep, collectPhase]
    split
    · exact trace_takeByte _ _ s
    · split
      · exact trace_endTransport _ s
      · exact List.prefix_rfl

theorem trace_sequencerStep (s : State) : s.trace <+: (sequencerStep s).trace := by
  cases hp : s.phase with
  | idle | compute => simp [sequencerStep, hp]
  | transport p | attempting p => simpa only [sequencerStep, hp] using trace_lineStep p s
  | building =>
    simp only [sequencerStep, hp, buildingPhase]
    split_ifs
    · exact trace_beginAttempt 1 (buildRequest _ s)
    · exact trace_beginAttempt 1 (buildRequest _ s)
    · exact trace_finish _ s
  | retrying =>
    simp only [sequencerStep, hp]
    split
    · exact trace_beginAttempt _ s
    · exact List.prefix_rfl
  | succeeded => simp [sequencerStep, hp]
  | exhausted =>
    simp only [sequencerStep, hp, exhaustedPhase]
    split
    · exact trace_finish _ (scrambleRes8 s)
    · exact trace_finish _ s

theorem trace_uartShift (s : State) : s.trace <+: (uartShift s).trace := by
  unfold uartShift
  split <;> simp

theorem trace_perform {e : Event} {s t : State} (h : perform e s = .next t) : s.trace <+: t.trace := by
  cases e with
  | hostCommand | uartRoom => cases h; exact List.prefix_rfl
  | hostRequest bytes =>
    obtain ⟨-, -, -, htrace⟩ := loadRequest_leaves h
    rw [htrace]
  | hostResponse bytes =>
    obtain ⟨-, -, -, htrace⟩ := loadResponse_leaves h
    rw [htrace]
  | reset u => cases h; exact trace_lowerDe s
  | line bytes => cases h; simp
  | uartLoad => cases h; simp
  | uartShift => cases h; exact trace_uartShift s
  | clock n =>
    cases h
    obtain ⟨-, h⟩ | ⟨-, h⟩ := advanceClock_cases n s <;> rw [h]
    exact trace_sequencerStep { s with now := s.now + n }
  | sequencer => cases h; exact trace_sequencerStep s
  | timerFirst =>
    cases h
    obtain ⟨-, h⟩ | ⟨-, h⟩ := timerFirstStep_cases s <;> rw [h]
    · exact trace_abortTransmit s
    · exact trace_sequencerStep s

theorem trace_begins {i : Instr} {s u : State} (h : Begins i s u) : s.trace <+: u.trace := by
  cases h with
  | transmit | exchange => exact trace_startTransmit s
  | receive | writeCoil | readCoils => exact List.prefix_rfl
  | compute hv => exact hv.trace ▸ trace_finish _ _

/-- Settles O56, by the induction over a step. -/
theorem configurationStaysAndTraceGrows : Obligations.ConfigurationStaysAndTraceGrows := by
  intro s t h
  refine step_induct (fun u => u.cfg = s.cfg ∧ s.trace <+: u.trace) (fun _ _ _ _ hu => hu) (fun e u v hu he => ?_)
    (fun _ _ hu => hu) (fun i w u v hv _ _ hu => ?_) ⟨rfl, List.prefix_rfl⟩ h
  · exact ⟨(perform_leaves he).1.trans hu.1, hu.2.trans (trace_perform he)⟩
  · exact ⟨(begins_leaves hv).1.trans hu.1, hu.2.trans (trace_begins (s := accept w u) hv)⟩

end Sys2Proof.Machine
end

section
/-! # The course of a command

What the command in progress is can be told from the phase, and what it ends with is one of the codes R218 allows it
(`OnCourse`): every move of the line side keeps that, so it holds of what a command answers on any line. -/

namespace Sys2Proof.Machine

variable {i : Instr} {s : State}

/-! ## What a step of a transport phase can do -/

/-- `u` has the registers that say which operation is in progress as `s` has them. -/
structure SameControl (s u : State) : Prop where
  busy : u.busy = s.busy
  done : u.done = s.done
  cmd : u.cmd = s.cmd
  phase : u.phase = s.phase

/-- The codes a transport phase can end its operation with: `OK`, and `TxError` or `RxTimeout` (R212, R213). -/
def LinePhase.exitCodes (p : LinePhase) : List (BitVec 4) := if p.sending then [0x0#4, 0x2#4] else [0x0#4, 0x3#4]

/-- How a step of the transport phase `p` leaves the operation: it goes on in that phase or in another of the same
direction, or from sending to receiving in an `EXCHANGE`, or it ends. -/
inductive Proceeds (p : LinePhase) (s : State) : State → Prop
  | stay {u} (h : SameControl s u) : Proceeds p s u
  | enter {u q} (h : SameControl s u) (hq : q.sending = p.sending ∨ exchanging s = true) : Proceeds p s (enter q u)
  | exit {u st} (h : SameControl s u) (hst : statusCode st ∈ p.exitCodes) : Proceeds p s (endTransport st u)

theorem sameControl_lowerDe (s : State) : SameControl s (lowerDe s) := by constructor <;> simp

theorem failTransmit_eq (s : State) : ∃ u, SameControl s u ∧ failTransmit s = endTransport .txError u := by
  unfold failTransmit
  split
  · exact ⟨writeRsp [] s, ⟨rfl, rfl, rfl, rfl⟩, rfl⟩
  · exact ⟨s, ⟨rfl, rfl, rfl, rfl⟩, rfl⟩

theorem proceeds_abortTransmit {p : LinePhase} (hp : p.sending = true) (s : State) :
    Proceeds p s (abortTransmit s) := by
  have lowered := sameControl_lowerDe { s with txq := [], txsr := none, timers := {} }
  obtain ⟨u, hu, h⟩ := failTransmit_eq (lowerDe { s with txq := [], txsr := none, timers := {} })
  rw [abortTransmit, h]
  exact .exit ⟨hu.busy.trans lowered.busy, hu.done.trans lowered.done, hu.cmd.trans lowered.cmd,
    hu.phase.trans lowered.phase⟩ (by simp [LinePhase.exitCodes, hp, statusCode])

theorem proceeds_takeByte {p : LinePhase} (hp : p.sending = false) (b : Byte) (rest : List Byte) (s : State) :
    Proceeds p s (takeByte b rest s) := by
  unfold takeByte
  simp only
  split
  · exact .exit ⟨rfl, rfl, rfl, rfl⟩ (by simp [LinePhase.exitCodes, hp, statusCode])
  · exact .enter (u := { storeReceived b rest s with timers := _ }) ⟨rfl, rfl, rfl, rfl⟩ (.inl hp.symm)

theorem proceeds_lineStep (p : LinePhase) (s : State) : Proceeds p s (lineStep p s) := by
  have stay : Proceeds p s s := .stay ⟨rfl, rfl, rfl, rfl⟩
  cases p with
  | txFlush => exact .enter (u := uartFlush s) ⟨rfl, rfl, rfl, rfl⟩ (.inl rfl)
  | txAssert => exact .enter (u := raiseDe { s with timers := _ }) ⟨rfl, rfl, rfl, rfl⟩ (.inl rfl)
  | txSettle =>
    simp only [lineStep]
    split
    · exact .enter (u := { s with timers := _ }) ⟨rfl, rfl, rfl, rfl⟩ (.inl rfl)
    · exact stay
  | txWrite n =>
    simp only [lineStep, writePhase]
    split_ifs
    · exact .enter (u := uartWrite _ s) ⟨rfl, rfl, rfl, rfl⟩ (.inl rfl)
    · exact proceeds_abortTransmit rfl s
    · exact stay
    · exact .enter (u := { s with timers := _ }) ⟨rfl, rfl, rfl, rfl⟩ (.inl rfl)
  | txWaitTc =>
    simp only [lineStep, waitTcPhase]
    split_ifs
    · exact .enter (u := { s with timers := _ }) ⟨rfl, rfl, rfl, rfl⟩ (.inl rfl)
    · exact proceeds_abortTransmit rfl s
    · exact stay
  | txHold =>
    simp only [lineStep]
    split
    · exact .enter ⟨rfl, rfl, rfl, rfl⟩ (.inl rfl)
    · exact stay
  | txRelease =>
    have lowered := sameControl_lowerDe s
    simp only [lineStep, releasePhase]
    split
    · exact .enter (u := { lowerDe s with timers := {} }) ⟨lowered.busy, lowered.done, lowered.cmd, lowered.phase⟩
        (.inr ‹_›)
    · exact .exit lowered (by decide)
  | rxWaitFirst =>
    simp only [lineStep, waitFirstPhase]
    split
    · exact .stay ⟨rfl, rfl, rfl, rfl⟩
    · split
      · exact proceeds_takeByte rfl _ _ s
      · split
        · exact .exit ⟨rfl, rfl, rfl, rfl⟩ (by decide)
        · exact stay
  | rxCollect =>
    simp only [lineStep, collectPhase]
    split
    · exact proceeds_takeByte rfl _ _ s
    · split
      · exact .exit ⟨rfl, rfl, rfl, rfl⟩ (by decide)
      · exact stay

/-! ## The phases of each command -/

/-- The phases in which a command that has begun can be (R33). -/
def CommandPhase : Instr → Phase → Prop
  | .transmit _ _, .transport p => p.sending = true
  | .receive _ _, .transport p => p.sending = false
  | .exchange _ _, .transport _ => True
  | .writeCoil _ _, p => p = .building ∨ p.inTransaction = true
  | .readCoils _ _, p => p = .building ∨ p.inTransaction = true
  | _, _ => False

/-- The command in progress is `i`. -/
def State.Runs (i : Instr) (s : State) : Prop := encode i = .command s.cmd ∧ s.busy = true ∧ s.done = false

/-- The command `i` runs in one of its phases, or has ended with one of its codes. -/
def State.OnCourse (i : Instr) (s : State) : Prop :=
  (s.Runs i ∧ CommandPhase i s.phase) ∨
  (encode i = .command s.cmd ∧ s.busy = false ∧ s.done = true ∧ statusCode s.status ∈ allowedCodes i)

theorem SameControl.runs {u : State} (h : SameControl s u) (hr : s.Runs i) : u.Runs i := by
  unfold State.Runs
  rw [h.cmd, h.busy, h.done]
  exact hr

theorem State.OnCourse.running (h : s.OnCourse i) (hb : s.busy = true) : s.Runs i ∧ CommandPhase i s.phase :=
  h.resolve_right fun he => absurd (hb.symm.trans he.2.1) (by decide)

theorem onCourse_finish {st : Status} (hc : encode i = .command s.cmd) (hst : statusCode st ∈ allowedCodes i) :
    (finish st s).OnCourse i :=
  .inr ⟨by simpa using hc, by simp, by simp, by simpa using hst⟩

/-- Only the two transactions are in a transaction's states. -/
theorem transaction_of_commandPhase {p : Phase} (h : CommandPhase i p) (hp : p = .building ∨ p.inTransaction = true) :
    ∃ st ch, i = .writeCoil st ch ∨ i = .readCoils st ch := by
  cases i with
  | writeCoil st ch => exact ⟨st, ch, .inl rfl⟩
  | readCoils st ch => exact ⟨st, ch, .inr rfl⟩
  | transmit | receive | exchange =>
    obtain rfl | hp := hp
    · exact h.elim
    · cases p with
      | transport => cases hp
      | _ => exact h.elim
  | _ => exact h.elim

/-- A transaction can be in any of its states. -/
theorem commandPhase_inTransaction {p q : Phase} (h : CommandPhase i p) (hp : p = .building ∨ p.inTransaction = true)
    (hq : q.inTransaction = true) : CommandPhase i q := by
  obtain ⟨st, ch, rfl | rfl⟩ := transaction_of_commandPhase h hp <;> exact .inr hq

/-- A transaction ends `OK` or `Timeout` once its attempts have begun (R197). -/
theorem allowed_in_transaction {st : Status} (h : CommandPhase i s.phase) (hp : s.phase.inTransaction = true)
    (hst : st = .ok ∨ st = .timeout) : statusCode st ∈ allowedCodes i := by
  obtain ⟨_, _, rfl | rfl⟩ := transaction_of_commandPhase h (.inr hp) <;> obtain rfl | rfl := hst <;>
    simp [allowedCodes, statusCode]

/-- Only `WRITE_COIL` can be refused for its channel (R192). -/
theorem allowed_in_building (hr : s.Runs i) (h : CommandPhase i s.phase) (hp : s.phase = .building)
    (hread : ¬ reading s = true) : statusCode .invalidParameter ∈ allowedCodes i := by
  obtain ⟨st, ch, rfl | rfl⟩ := transaction_of_commandPhase h (.inl hp)
  · simp [allowedCodes, statusCode]
  · have hc : commandWord 0x9#4 st ch = s.cmd := Fetched.command.inj hr.1
    exact absurd (by simp [reading, ← hc]) hread

/-- No other command of the transport is exchanging. -/
theorem not_exchanging {op : BitVec 4} {st : Bool} {ch : Word} {p : LinePhase} (hc : commandWord op st ch = s.cmd)
    (hs : s.phase = .transport p) (hop : op ≠ 0x3#4) : exchanging s = false := by
  simpa [exchanging, hs, ← hc] using hop

/-- `EXCHANGE` alone goes on to receive (R150). -/
theorem commandPhase_transport {p q : LinePhase} (hr : s.Runs i) (hs : s.phase = .transport p)
    (h : CommandPhase i (.transport p)) (hq : q.sending = p.sending ∨ exchanging s = true) :
    CommandPhase i (.transport q) := by
  have hcmd := hr.1
  cases i with
  | transmit | receive =>
    have hx := not_exchanging (Fetched.command.inj hcmd) hs (by decide)
    exact (hq.resolve_right (by simp [hx])).trans h
  | exchange => trivial
  | writeCoil | readCoils => exact absurd h (by simp [CommandPhase, Phase.inTransaction])
  | _ => exact h

/-- A transport phase ends with a code its command allows. -/
theorem allowed_of_exitCodes {p : LinePhase} {c : BitVec 4} (h : CommandPhase i (.transport p))
    (hc : c ∈ p.exitCodes) : c ∈ allowedCodes i := by
  unfold LinePhase.exitCodes at hc
  cases i with
  | transmit => rwa [if_pos (show p.sending = true from h)] at hc
  | receive => rwa [if_neg (by simp [show p.sending = false from h])] at hc
  | exchange st ch =>
    have hsub : [0x0#4, 0x3#4] ⊆ allowedCodes (.exchange st ch) := by simp [allowedCodes]
    split at hc
    · exact List.mem_append_left [0x3#4] hc
    · exact hsub hc
  | writeCoil | readCoils => exact absurd h (by simp [CommandPhase, Phase.inTransaction])
  | _ => exact h.elim

/-! ## The sequencer keeps the course -/

theorem concludeAttempt_control (st : Status) (s : State) :
    (concludeAttempt st s).busy = s.busy ∧ (concludeAttempt st s).done = s.done ∧
    (concludeAttempt st s).phase.inTransaction = true := by
  refine ⟨?_, ?_, ?_⟩
  · simp only [concludeAttempt, attemptFails, attemptSucceeds]; split_ifs <;> rfl
  · simp only [concludeAttempt, attemptFails, attemptSucceeds]; split_ifs <;> rfl
  · obtain ⟨h, -⟩ | ⟨h, -⟩ | ⟨h, -⟩ := concludeAttempt_phase st s <;> rw [h] <;> rfl

/-- An operation inside an attempt ends in the sequencer, not the command (R225). -/
theorem onCourse_endTransport_attempt {st : Status} {p : LinePhase} (hr : s.Runs i) (hs : s.phase = .attempting p)
    (h : CommandPhase i s.phase) : (endTransport st s).OnCourse i := by
  obtain ⟨hcmd, hb, hd⟩ := hr
  obtain ⟨hb', hd', hp⟩ := concludeAttempt_control st s
  have heq : endTransport st s = concludeAttempt st s := by rw [endTransport, hs]
  rw [heq]
  refine .inl ⟨⟨?_, hb'.trans hb, hd'.trans hd⟩, commandPhase_inTransaction h (.inr (by rw [hs]; rfl)) hp⟩
  rw [(concludeAttempt_same st s).cmd]
  exact hcmd

/-- Outside an attempt it ends the command (R222). -/
theorem endTransport_alone {st : Status} (hs : ∀ p, s.phase ≠ .attempting p) : endTransport st s = finish st s := by
  obtain ⟨p, hp, -⟩ | ⟨-, h⟩ := endTransport_cases st s
  · exact absurd hp (hs p)
  · exact h

theorem onCourse_endTransport_alone {st : Status} (hr : s.Runs i) (hs : ∀ p, s.phase ≠ .attempting p)
    (hst : statusCode st ∈ allowedCodes i) : (endTransport st s).OnCourse i := by
  rw [endTransport_alone hs]
  exact onCourse_finish hr.1 hst

theorem onCourse_proceeds {p : LinePhase} {t : State} (hr : s.Runs i) (h : CommandPhase i s.phase)
    (hs : s.phase = .transport p ∨ s.phase = .attempting p) (ht : Proceeds p s t) : t.OnCourse i := by
  cases ht with
  | stay hu => exact .inl ⟨hu.runs hr, hu.phase ▸ h⟩
  | @enter u q hu hq =>
    have hru : (Machine.enter q u).Runs i := hu.runs hr
    refine .inl ⟨hru, ?_⟩
    rw [enter_phase, hu.phase]
    obtain hs | hs := hs
    · rw [hs] at h ⊢
      exact commandPhase_transport hr hs h hq
    · rw [hs] at h ⊢
      exact commandPhase_inTransaction h (.inr rfl) rfl
  | exit hu hst =>
    obtain hs | hs := hs
    · rw [hs] at h
      exact onCourse_endTransport_alone (hu.runs hr) (by simp [hu.phase, hs]) (allowed_of_exitCodes h hst)
    · exact onCourse_endTransport_attempt (hu.runs hr) (hu.phase.trans hs) (hu.phase ▸ h)

theorem onCourse_startTransmit (hr : s.Runs i) (ho : CommandPhase i (enter .txFlush s).phase)
    (ht : (failTransmit s).OnCourse i) : (startTransmit s).OnCourse i := by
  unfold startTransmit
  split
  · exact ht
  · exact .inl ⟨hr, ho⟩

/-- An attempt begins, or fails at once, inside its transaction. -/
theorem onCourse_beginAttempt (n : Nat) (hr : s.Runs i) (h : CommandPhase i (.attempting .txFlush)) :
    (beginAttempt n s).OnCourse i := by
  refine onCourse_startTransmit (s := { s with att := n, phase := .attempting .txFlush, timers := {} }) hr h ?_
  obtain ⟨u, hu, hf⟩ := failTransmit_eq { s with att := n, phase := .attempting .txFlush, timers := {} }
  rw [hf]
  exact onCourse_endTransport_attempt (hu.runs hr) hu.phase (hu.phase ▸ h)

theorem onCourse_sequencerStep (hr : s.Runs i) (h : CommandPhase i s.phase) : (sequencerStep s).OnCourse i := by
  cases hs : s.phase with
  | idle | compute => rw [sequencerStep, hs]; exact .inl ⟨hr, h⟩
  | transport p =>
    rw [sequencerStep, hs]
    exact onCourse_proceeds hr h (.inl hs) (proceeds_lineStep p s)
  | attempting p =>
    rw [sequencerStep, hs]
    exact onCourse_proceeds hr h (.inr hs) (proceeds_lineStep p s)
  | building =>
    have ha : CommandPhase i (.attempting .txFlush) := commandPhase_inTransaction h (.inl hs) rfl
    rw [sequencerStep, hs]
    simp only [buildingPhase]
    split_ifs with hread
    · exact onCourse_beginAttempt 1 (s := buildRequest _ s) hr ha
    · exact onCourse_beginAttempt 1 (s := buildRequest _ s) hr ha
    · exact onCourse_finish hr.1 (allowed_in_building hr h hs hread)
  | retrying =>
    have ha : CommandPhase i (.attempting .txFlush) := commandPhase_inTransaction h (.inr (by rw [hs]; rfl)) rfl
    rw [sequencerStep, hs]
    simp only
    split
    · exact onCourse_beginAttempt _ hr ha
    · exact .inl ⟨hr, h⟩
  | succeeded =>
    rw [sequencerStep, hs]
    exact onCourse_finish hr.1 (allowed_in_transaction h (by rw [hs]; rfl) (.inl rfl))
  | exhausted =>
    have hc := allowed_in_transaction h (by rw [hs]; rfl) (.inr rfl)
    rw [sequencerStep, hs]
    simp only [exhaustedPhase]
    split
    · exact onCourse_finish (s := scrambleRes8 s) hr.1 hc
    · exact onCourse_finish hr.1 hc

/-! ## The moves and the beginning keep the course -/

theorem onCourse_timerFirstStep (hr : s.Runs i) (h : CommandPhase i s.phase) : (timerFirstStep s).OnCourse i := by
  obtain ⟨hc, ht⟩ | ⟨-, ht⟩ := timerFirstStep_cases s <;> rw [ht]
  · have hl := ((budgetCoincides_iff s).mp hc).1
    refine onCourse_proceeds hr h ?_ (proceeds_abortTransmit (p := .txWaitTc) rfl s)
    cases hs : s.phase <;> rw [hs] at hl <;> cases hl
    · exact .inl rfl
    · exact .inr rfl
  · exact onCourse_sequencerStep hr h

theorem onCourse_advanceClock (n : Nat) (hr : s.Runs i) (h : CommandPhase i s.phase) :
    (advanceClock n s).OnCourse i := by
  obtain ⟨-, ht⟩ | ⟨-, ht⟩ := advanceClock_cases n s <;> rw [ht]
  · exact .inl ⟨hr, h⟩
  · exact onCourse_sequencerStep (s := { s with now := s.now + n }) hr h

theorem onCourse_perform {e : Event} {t : State} (he : e.lineSide = true) (hb : s.busy = true) (h : s.OnCourse i)
    (ht : perform e s = .next t) : t.OnCourse i := by
  obtain ⟨hr, hp⟩ := h.running hb
  have same : ∀ {u : State}, SameControl s u → u.OnCourse i := fun hu => .inl ⟨hu.runs hr, hu.phase ▸ hp⟩
  cases e with
  | hostRequest | hostResponse | reset => cases he
  | hostCommand | uartRoom => cases ht; exact same ⟨rfl, rfl, rfl, rfl⟩
  | line | uartLoad | uartShift => cases ht; exact same (by constructor <;> simp)
  | clock n => cases ht; exact onCourse_advanceClock n hr hp
  | sequencer => cases ht; exact onCourse_sequencerStep hr hp
  | timerFirst => cases ht; exact onCourse_timerFirstStep hr hp

/-- An idle block's `TRANSMIT` and `EXCHANGE` fail their length check with `TxError`, or begin to send (R122). -/
theorem onCourse_startTransmit_idle (hr : s.Runs i) (hs : s.phase = .idle) (ho : CommandPhase i (.transport .txFlush)) :
    (startTransmit s).OnCourse i := by
  refine onCourse_startTransmit hr (by rwa [enter_phase, hs]) ?_
  obtain ⟨u, hu, hf⟩ := failTransmit_eq s
  rw [hf]
  exact onCourse_endTransport_alone (hu.runs hr) (by simp [hu.phase, hs])
    (allowed_of_exitCodes ho (by simp [LinePhase.exitCodes, LinePhase.sending, statusCode]))

theorem onCourse_begins {u : State} (hr : s.Runs i) (hs : s.phase = .idle) (hu : Begins i s u) : u.OnCourse i := by
  cases hu with
  | transmit => exact onCourse_startTransmit_idle hr hs rfl
  | exchange => exact onCourse_startTransmit_idle hr hs trivial
  | receive =>
    refine .inl ⟨hr, ?_⟩
    rw [startReceive, enter_phase, hs]
    rfl
  | writeCoil | readCoils => exact .inl ⟨hr, .inl rfl⟩
  | compute hv hc => exact onCourse_finish (hv.cmd.symm ▸ hr.1) hc

/-- A command presented to a ready block is on its course when it answers, however the line moves. -/
theorem exec_onCourse {w : CommandWord} {t : State} (hi : encode i = .command w) (h : s.ready)
    (hes : s.script.all Event.lineSide = true) (ht : exec i s = .next t) : t.OnCourse i := by
  obtain ⟨-, u, hu, hd⟩ := exec_next hi h.2.1 ht
  have hbegin : u.OnCourse i := onCourse_begins (s := accept w s) ⟨hi, rfl, rfl⟩ h.phase hu
  exact drive_induct (State.OnCourse i) (fun _ _ h => h) (fun _ _ _ he hb h => onCourse_perform he hb h) _ hes hbegin hd

/-! ## What the host may read -/

theorem readRes16_isSome (s : State) :
    readRes16 s ≠ none ↔ s.done = true ∧ s.status = .ok ∧ opField s.cmd = 0x0#4 := by
  simp [readRes16, and_assoc]

theorem readRes8_isSome (s : State) :
    readRes8 s ≠ none ↔ s.done = true ∧ s.status = .ok ∧ (opField s.cmd = 0x7#4 ∨ opField s.cmd = 0x9#4) := by
  rw [readRes8, ite_ne_right_iff]
  simp [and_assoc]

theorem State.OnCourse.cmd (h : s.OnCourse i) : encode i = .command s.cmd := h.elim (·.1.1) (·.1)

/-- While a command runs `DONE` is 0, and when it has ended `DONE` is 1. -/
theorem State.OnCourse.done_iff (h : s.OnCourse i) : s.done = true ↔ s.busy = false := by
  obtain ⟨⟨-, hb, hd⟩, -⟩ | ⟨-, hb, hd, -⟩ := h <;> simp [hb, hd]

theorem State.OnCourse.code_allowed (h : s.OnCourse i) (hb : s.busy = false) :
    statusCode s.status ∈ allowedCodes i := by
  obtain ⟨⟨-, hb', -⟩, -⟩ | ⟨-, -, -, hc⟩ := h
  · exact absurd (hb'.symm.trans hb) (by decide)
  · exact hc

/-- `CRC16` ends in the step that begins it, and cannot fail (R101). -/
theorem State.OnCourse.crc16_ok {st : Bool} {ch : Word} (h : s.OnCourse (.crc16 st ch)) :
    s.done = true ∧ s.status = .ok := by
  obtain ⟨-, hp⟩ | ⟨-, -, hd, hc⟩ := h
  · exact hp.elim
  · refine ⟨hd, ?_⟩
    cases hs : s.status <;> rw [hs] at hc <;> simp [statusCode, allowedCodes] at hc

/-- `OP` tells the commands apart: 0x0 is `CRC16`, 0x7 and 0x9 are the two that write `RES8` (R72). -/
theorem opField_of_command {st : Bool} {ch : Word} {w : CommandWord} (hw : encode i = .command w)
    (hi : i ∈ [Instr.crc16 st ch, .transmit st ch, .receive st ch, .exchange st ch, .buildWc st ch, .buildRc st ch,
      .validateWc st ch, .parseRc st ch, .writeCoil st ch, .readCoils st ch]) :
    (opField w = 0x0#4 ↔ i = .crc16 st ch) ∧
    (opField w = 0x7#4 ∨ opField w = 0x9#4 ↔ i = .parseRc st ch ∨ i = .readCoils st ch) := by
  simp only [List.mem_cons, List.not_mem_nil, or_false] at hi
  rcases hi with rfl | rfl | rfl | rfl | rfl | rfl | rfl | rfl | rfl | rfl <;> cases hw <;> simp

theorem encode_of_command {st : Bool} {ch : Word}
    (hi : i ∈ [Instr.crc16 st ch, .transmit st ch, .receive st ch, .exchange st ch, .buildWc st ch, .buildRc st ch,
      .validateWc st ch, .parseRc st ch, .writeCoil st ch, .readCoils st ch]) : ∃ w, encode i = .command w := by
  simp only [List.mem_cons, List.not_mem_nil, or_false] at hi
  rcases hi with rfl | rfl | rfl | rfl | rfl | rfl | rfl | rfl | rfl | rfl <;> exact ⟨_, rfl⟩

/-- Settles O59: what a command answers is on its course, and the readers look at `DONE`, `STATUS` and `OP` alone. -/
theorem resultsAreValidOnlyAfterTheirCommands : Obligations.ResultsAreValidOnlyAfterTheirCommands := by
  refine ⟨fun s => rfl, rfl, fun s t i st ch hs hes hi ht => ?_⟩
  obtain ⟨w, hw⟩ := encode_of_command hi
  have h : t.OnCourse i := exec_onCourse hw hs hes ht
  obtain ⟨hop16, hop8⟩ := opField_of_command h.cmd hi
  refine ⟨fun hb => ?_, fun hb => ⟨_, h.code_allowed hb, if_pos (h.done_iff.mpr hb)⟩, ?_, ?_⟩
  · exact if_neg fun hd => absurd (hb.symm.trans (h.done_iff.mp hd)) (by decide)
  · rw [readRes16_isSome, hop16]
    constructor
    · rintro ⟨-, -, hi⟩
      exact hi
    · rintro rfl
      exact ⟨h.crc16_ok.1, h.crc16_ok.2, rfl⟩
  · rw [readRes8_isSome, hop8, h.done_iff]

end Sys2Proof.Machine
end

section
/-! # The edges of the direction line -/

namespace Sys2Proof.Machine

variable {i : Instr} {s : State}

/-- `DE` and the record of its edges are in `t` as they are in `s`. -/
def SameEdges (s t : State) : Prop :=
  t.de = s.de ∧ countEvents WireEvent.isDeUp t.trace = countEvents WireEvent.isDeUp s.trace ∧
  countEvents WireEvent.isDeDown t.trace = countEvents WireEvent.isDeDown s.trace

theorem SameEdges.trans {t u : State} (h : SameEdges s t) (h' : SameEdges t u) : SameEdges s u := by
  obtain ⟨hde, hup, hdown⟩ := h
  obtain ⟨hde', hup', hdown'⟩ := h'
  exact ⟨hde'.trans hde, hup'.trans hup, hdown'.trans hdown⟩

theorem sameEdges_of_eq {t : State} (hde : t.de = s.de) (htr : t.trace = s.trace) : SameEdges s t :=
  ⟨hde, by rw [htr], by rw [htr]⟩

theorem sameEdges_of_event {t : State} (e : WireEvent) (hup : e.isDeUp = false) (hdown : e.isDeDown = false)
    (hde : t.de = s.de) (htr : t.trace = s.trace ++ [(e, s.now)]) : SameEdges s t :=
  ⟨hde, by simp [htr, countEvents, hup], by simp [htr, countEvents, hdown]⟩

/-- The end of a command in receive mode has no edge (R222 (1)). -/
theorem sameEdges_finish (st : Status) (hde : s.de = false) : SameEdges s (finish st s) :=
  sameEdges_of_eq (by simp [hde]) (by simp [hde])

theorem sameEdges_endTransport {p : LinePhase} (st : Status) (hs : s.phase = .transport p) (hde : s.de = false) :
    SameEdges s (endTransport st s) := by
  rw [endTransport_alone (by simp [hs])]
  exact sameEdges_finish st hde

theorem sameEdges_takeByte {p : LinePhase} (b : Byte) (rest : List Byte) (hs : s.phase = .transport p)
    (hde : s.de = false) : SameEdges s (takeByte b rest s) := by
  have stored : SameEdges s (storeReceived b rest s) := sameEdges_of_event (.rx b) rfl rfl rfl rfl
  unfold takeByte
  simp only
  split
  · exact stored.trans (sameEdges_endTransport _ (s := storeReceived b rest s) hs hde)
  · exact stored

/-- A receive never drives the line (R140, R141). -/
theorem sameEdges_sequencerStep {p : LinePhase} (hs : s.phase = .transport p) (hp : p.sending = false)
    (hde : s.de = false) : SameEdges s (sequencerStep s) := by
  have stay : SameEdges s s := ⟨rfl, rfl, rfl⟩
  rw [sequencerStep, hs]
  cases p with
  | rxWaitFirst =>
    simp only [lineStep, waitFirstPhase]
    split
    · exact stay
    · split
      · exact sameEdges_takeByte _ _ hs hde
      · split
        · exact sameEdges_endTransport _ hs hde
        · exact stay
  | rxCollect =>
    simp only [lineStep, collectPhase]
    split
    · exact sameEdges_takeByte _ _ hs hde
    · split
      · exact sameEdges_endTransport _ hs hde
      · exact stay
  | _ => cases hp

theorem sameEdges_loadRequest {bytes : List Byte} {t : State} (h : loadRequest bytes s = .next t) : SameEdges s t := by
  obtain ⟨-, -, hde, htrace⟩ := loadRequest_leaves h
  exact sameEdges_of_eq hde htrace

theorem sameEdges_deliver (bytes : List Byte) (s : State) : SameEdges s (deliver bytes s) :=
  sameEdges_of_eq (deliver_de bytes s) (deliver_trace bytes s)

theorem sameEdges_perform {e : Event} {t : State} {p : LinePhase} (he : e.lineSide = true)
    (hs : s.phase = .transport p) (hp : p.sending = false) (hde : s.de = false) (ht : perform e s = .next t) :
    SameEdges s t := by
  cases e with
  | hostRequest | hostResponse | reset => cases he
  | hostCommand | uartRoom => cases ht; exact ⟨rfl, rfl, rfl⟩
  | line bytes => cases ht; exact sameEdges_deliver bytes s
  | uartLoad => cases ht; exact sameEdges_of_eq (uartLoad_de s) (uartLoad_trace s)
  | uartShift =>
    cases ht
    unfold uartShift
    split
    · exact sameEdges_of_event (.tx _) rfl rfl rfl rfl
    · exact ⟨rfl, rfl, rfl⟩
  | clock n =>
    cases ht
    obtain ⟨-, ht⟩ | ⟨-, ht⟩ := advanceClock_cases n s <;> rw [ht]
    · exact ⟨rfl, rfl, rfl⟩
    · exact sameEdges_sequencerStep (s := { s with now := s.now + n }) hs hp hde
  | sequencer => cases ht; exact sameEdges_sequencerStep hs hp hde
  | timerFirst =>
    cases ht
    obtain ⟨hc, -⟩ | ⟨-, ht⟩ := timerFirstStep_cases s
    · have hl := ((budgetCoincides_iff s).mp hc).1
      rw [hs] at hl
      cases hl
      cases hp
    · rw [ht]
      exact sameEdges_sequencerStep hs hp hde

/-- The command never sends: whatever phase it is in is one of a receive. -/
def NeverSends (i : Instr) : Prop := ∀ p, CommandPhase i p → ∃ q, p = .transport q ∧ q.sending = false

theorem neverSends_receive (st : Bool) (ch : Word) : NeverSends (.receive st ch) := by
  intro p hp
  cases p with
  | transport q => exact ⟨q, rfl, hp⟩
  | _ => exact hp.elim

theorem sameEdges_begins {u : State} (hn : NeverSends i) (hde : s.de = false) (hu : Begins i s u) : SameEdges s u := by
  cases hu with
  | transmit =>
    obtain ⟨q, hq, h⟩ := hn (.transport .txFlush) rfl
    cases hq
    cases h
  | exchange =>
    obtain ⟨q, hq, h⟩ := hn (.transport .txFlush) trivial
    cases hq
    cases h
  | writeCoil | readCoils =>
    obtain ⟨q, hq, -⟩ := hn .building (.inl rfl)
    cases hq
  | receive => exact ⟨rfl, rfl, rfl⟩
  | compute hv =>
    exact (sameEdges_of_eq hv.de hv.trace).trans (sameEdges_finish _ (hv.de.trans hde))

/-- A command that never sends leaves the direction line alone from its acceptance to whatever it answers. -/
theorem sameEdges_exec {w : CommandWord} {t : State} (hi : encode i = .command w) (hn : NeverSends i) (h : s.ready)
    (hes : s.script.all Event.lineSide = true) (ht : exec i s = .next t) : SameEdges s t := by
  obtain ⟨-, u, hu, hd⟩ := exec_next hi h.2.1 ht
  have hbegin : u.OnCourse i ∧ SameEdges s u :=
    ⟨onCourse_begins (s := accept w s) ⟨hi, rfl, rfl⟩ h.phase hu, sameEdges_begins (s := accept w s) hn h.de hu⟩
  refine (drive_induct (fun v => v.OnCourse i ∧ SameEdges s v) (fun _ _ hv => hv) (fun e v v' he hb hv hv' => ?_)
    _ hes hbegin hd).2
  obtain ⟨q, hq, hs⟩ := hn _ (hv.1.running hb).2
  exact ⟨onCourse_perform he hb hv.1 hv', hv.2.trans (sameEdges_perform he hq hs (hv.2.1.trans h.de) hv')⟩

/-- Settles O54: six commands never send, a request frame is a load and a response frame a delivery. -/
theorem onlyTransmittersMoveTheLine : Obligations.OnlyTransmittersMoveTheLine := by
  intro s t i st ch a h l v m c d hs hes hi ht
  have computing : ∀ {j : Instr}, (∀ p, ¬ CommandPhase j p) → NeverSends j := fun hj p hp => absurd hp (hj p)
  simp only [List.mem_cons, List.not_mem_nil, or_false] at hi
  rcases hi with rfl | rfl | rfl | rfl | rfl | rfl | rfl | rfl | rfl | rfl
  · exact sameEdges_exec rfl (computing fun _ => id) hs hes ht
  · exact sameEdges_exec rfl (neverSends_receive st ch) hs hes ht
  · exact sameEdges_exec rfl (computing fun _ => id) hs hes ht
  · exact sameEdges_exec rfl (computing fun _ => id) hs hes ht
  · exact sameEdges_exec rfl (computing fun _ => id) hs hes ht
  · exact sameEdges_exec rfl (computing fun _ => id) hs hes ht
  · exact sameEdges_loadRequest ht
  · exact sameEdges_loadRequest ht
  · cases ht
    exact sameEdges_deliver _ s
  · cases ht
    exact sameEdges_deliver _ s

end Sys2Proof.Machine
end

section
/-! # A command's run, move by move

What one move of the line side is to the block (`perform_cases`): a step of the sequencer, the error exit of a
coincidence, or a passive move, which at most touches the transmitter's queue, the receive path and the clock. And an
induction rule for a command's run that keeps count of the moves used so far (`runCommand_course`). -/

namespace Sys2Proof.Machine

variable {i : Instr} {s t : State}

@[simp] theorem delivered_append (a b : List Event) : delivered (a ++ b) = delivered a ++ delivered b := by
  induction a with
  | nil => rfl
  | cons e a ih => cases e <;> simp [delivered, ih]

/-! ## What a move can do -/

/-- With `TXQ` empty nothing moves into the shift register (R27). -/
theorem uartLoad_of_empty (h : s.txq = []) : uartLoad s = s := by
  unfold uartLoad
  split
  · rw [h] at *
    contradiction
  · rfl

/-- An empty shift register has nothing to send (R27). -/
theorem uartShift_of_empty (h : s.txsr = none) : uartShift s = s := by
  unfold uartShift
  rw [h]

/-- The byte in the shift register leaves it, its event is recorded and the hold starts afresh (R27, R229). -/
theorem uartShift_of_byte {b : Byte} (h : s.txsr = some b) :
    uartShift s =
      record (.tx b) { s with txsr := none, timers := { s.timers with hold := some (s.now + s.cfg.tHold) } } := by
  unfold uartShift
  rw [h]

/-- The bytes in the transmitter stay, in order, when the head of the queue moves into the shift register (R27). -/
theorem uartLoad_bytes (s : State) :
    (uartLoad s).txsr.toList ++ (uartLoad s).txq = s.txsr.toList ++ s.txq := by
  unfold uartLoad
  split
  · rename_i hq hr
    simp [hq, hr]
  · rfl

/-- The move `e` leads from `s` to `t` and the sequencer takes no part in it. -/
structure Passive (e : Event) (s t : State) : Prop where
  cfg : t.cfg = s.cfg
  phase : t.phase = s.phase
  busy : t.busy = s.busy
  req : t.req = s.req
  rsp : t.rsp = s.rsp
  now : s.now ≤ t.now
  rxq : t.rxq = if s.de then s.rxq else s.rxq ++ delivered [e]
  wire : t = uartLoad s ∨ t = uartShift s ∨
    (t.trace = s.trace ∧ t.txq = s.txq ∧ t.txsr = s.txsr ∧ t.timers = s.timers)

/-- What a move of the line side can do (R7, R229, R221). -/
theorem perform_cases {e : Event} (he : e.lineSide = true) (ht : perform e s = .next t) :
    (delivered [e] = [] ∧ ∃ n, t = sequencerStep { s with now := s.now + n }) ∨
    (delivered [e] = [] ∧ linePhase s.phase = some .txWaitTc ∧ t = abortTransmit s) ∨
    Passive e s t := by
  have nothing : ∀ q : List Byte, q = if s.de then q else q ++ [] := by simp
  cases e with
  | hostRequest | hostResponse | reset => cases he
  | hostCommand | uartRoom =>
    cases ht
    exact .inr (.inr ⟨rfl, rfl, rfl, rfl, rfl, le_rfl, nothing _, .inr (.inr ⟨rfl, rfl, rfl, rfl⟩)⟩)
  | line bytes =>
    cases ht
    exact .inr (.inr (by constructor <;> simp [delivered]))
  | uartLoad =>
    cases ht
    exact .inr (.inr (by constructor <;> simp [delivered]))
  | uartShift =>
    cases ht
    exact .inr (.inr (by constructor <;> simp [delivered]))
  | clock n =>
    cases ht
    obtain ⟨-, h⟩ | ⟨-, h⟩ := advanceClock_cases n s <;> rw [h]
    · exact .inr (.inr ⟨rfl, rfl, rfl, rfl, rfl, Nat.le_add_right _ _, nothing _, .inr (.inr ⟨rfl, rfl, rfl, rfl⟩)⟩)
    · exact .inl ⟨rfl, n, rfl⟩
  | sequencer =>
    cases ht
    exact .inl ⟨rfl, 0, rfl⟩
  | timerFirst =>
    cases ht
    obtain ⟨hc, h⟩ | ⟨-, h⟩ := timerFirstStep_cases s <;> rw [h]
    · exact .inr (.inl ⟨rfl, ((budgetCoincides_iff s).mp hc).1, rfl⟩)
    · exact .inl ⟨rfl, 0, rfl⟩

/-- With the transmitter empty a passive move leaves the wire trace, the transmitter and the timers alone. -/
theorem Passive.still {e : Event} (h : Passive e s t) (hq : s.txq = [] ∧ s.txsr = none) :
    t.trace = s.trace ∧ t.txq = s.txq ∧ t.txsr = s.txsr ∧ t.timers = s.timers := by
  obtain h | h | h := h.wire
  · rw [uartLoad_of_empty hq.1] at h
    subst h
    exact ⟨rfl, rfl, rfl, rfl⟩
  · rw [uartShift_of_empty hq.2] at h
    subst h
    exact ⟨rfl, rfl, rfl, rfl⟩
  · exact h

/-- The invariant does not speak of the clock. -/
theorem State.Inv.later (h : s.Inv) (n : Nat) : State.Inv { s with now := s.now + n } :=
  h.surroundings s.rxq (s.now + n) s.txRoom s.script s.tmoIn s.dataIn

/-! ## Induction over a command's run -/

/-- What holds of a command in progress and of the moves used so far, and is kept by every further move, holds when it
has run; the invariant and the command's course come with it. -/
theorem drive_course (Q : List Event → State → Prop)
    (hscript : ∀ used v es, Q used v → Q used { v with script := es })
    (hmove : ∀ used e v v', e.lineSide = true → v.Inv → v.Runs i → CommandPhase i v.phase → Q used v →
      perform e v = .next v' → Q (used ++ [e]) v')
    (es : List Event) (hes : es.all Event.lineSide = true) {used : List Event} (hinv : s.Inv) (hon : s.OnCourse i)
    (hq : Q used s) (h : drive es s = .next t) :
    ∃ more, es = more ++ t.script ∧ t.Inv ∧ t.OnCourse i ∧ Q (used ++ more) t := by
  have stop : ∀ {u : State} {used : List Event} (es : List Event), u.Inv → u.OnCourse i → Q used u →
      ∃ more, es = more ++ es ∧ State.Inv { u with script := es } ∧ State.OnCourse i { u with script := es } ∧
        Q (used ++ more) { u with script := es } := fun {u used} es hu ho hq =>
    ⟨[], rfl, hu.surroundings u.rxq u.now u.txRoom es u.tmoIn u.dataIn, ho, by simpa using hscript used u es hq⟩
  induction es generalizing used s with
  | nil =>
    cases h
    exact stop [] hinv hon hq
  | cons e es ih =>
    simp only [List.all_cons, Bool.and_eq_true] at hes
    cases hb : s.busy with
    | false =>
      rw [drive_idle hb] at h
      cases h
      exact stop (e :: es) hinv hon hq
    | true =>
      obtain ⟨u, hu⟩ := perform_lineSide hes.1 s
      obtain ⟨hr, hp⟩ := hon.running hb
      rw [drive_cons hb hu] at h
      obtain ⟨more, rfl, hinv', hon', hq'⟩ := ih hes.2 (inv_perform e hinv hu) (onCourse_perform hes.1 hb hon hu)
        (hmove used e s u hes.1 hinv hr hp hq hu) h
      exact ⟨e :: more, rfl, hinv', hon', by simpa using hq'⟩

/-- The same from a ready block: what holds when the command `i` has begun, and is kept by every move. -/
theorem runCommand_course {w : CommandWord} {body : State → State} (hi : encode i = .command w)
    (hbody : ∀ s, Begins i s (body s)) (hs : s.ready) (hes : s.script.all Event.lineSide = true)
    (ht : runCommand w body s = .next t) (Q : List Event → State → Prop)
    (hscript : ∀ used v es, Q used v → Q used { v with script := es }) (hbegin : Q [] (body (accept w s)))
    (hmove : ∀ used e v v', e.lineSide = true → v.Inv → v.Runs i → CommandPhase i v.phase → Q used v →
      perform e v = .next v' → Q (used ++ [e]) v') :
    ∃ used, s.script = used ++ t.script ∧ t.Inv ∧ t.OnCourse i ∧ Q used t := by
  rw [runCommand_ready hs] at ht
  exact drive_course Q hscript hmove _ hes (inv_begins hs.2.1 hs.2.2 hs.1 (hbody (accept w s)))
    (onCourse_begins (s := accept w s) ⟨hi, rfl, rfl⟩ hs.phase (hbody _)) hbegin ht

end Sys2Proof.Machine
end

section
/-! # The bytes of a receive

A receive takes bytes off the head of the receive path while the line appends to its tail, so what it has taken and what
is still waiting are together, in order, what was waiting and what has been delivered (`Receives`). -/

namespace Sys2Proof.Machine

variable {s t u : State}

/-- The bytes the operation in progress has taken, or the one that has ended: `RSP`, once the first byte is in it. -/
def State.taken (s : State) : List Byte :=
  match s.phase with
  | .transport .rxCollect => s.rsp
  | .transport _ => []
  | _ => s.rsp

/-- The ways a receive can end (R144): `OK` with a byte taken, `RxTimeout` with none. -/
def State.ReceiveEnded (s : State) : Prop := (s.status = .ok ∧ s.rsp ≠ []) ∨ (s.status = .rxTimeout ∧ s.rsp = [])

/-- From `s` to `t` the line delivers `arrived`, and the receive takes `bs` in arrival order, recording `evs`. -/
def Receives (arrived : List Byte) (s t : State) : Prop :=
  (∃ (bs : List Byte) (evs : List (WireEvent × Nat)), s.rxq ++ arrived = bs ++ t.rxq ∧ t.taken = s.taken ++ bs ∧
    t.trace = s.trace ++ evs ∧ evs.map (·.1) = bs.map .rx) ∧
  (t.busy = false → t.ReceiveEnded)

theorem taken_idle (hp : s.phase = .idle) : s.taken = s.rsp := by rw [State.taken, hp]

theorem taken_collect (hp : s.phase = .transport .rxCollect) : s.taken = s.rsp := by rw [State.taken, hp]

theorem taken_waitFirst (hp : s.phase = .transport .rxWaitFirst) : s.taken = [] := by rw [State.taken, hp]

theorem LinePhase.drives_of_receiving {p : LinePhase} (hp : p.sending = false) : p.drives = false := by
  cases p with
  | rxWaitFirst | rxCollect => rfl
  | _ => cases hp

/-- A move by which nothing is taken. -/
theorem receives_of_eq {arrived : List Byte} (hb : s.busy = true) (hbusy : t.busy = s.busy) (hp : t.phase = s.phase)
    (hrsp : t.rsp = s.rsp) (hq : t.rxq = s.rxq ++ arrived) (htr : t.trace = s.trace) : Receives arrived s t := by
  refine ⟨⟨[], [], by simp [hq], by simp [State.taken, hp, hrsp], by simp [htr], rfl⟩, fun h => ?_⟩
  rw [hbusy, hb] at h
  cases h

theorem Receives.trans {a b : List Byte} (h : Receives a s t) (h' : Receives b t u) : Receives (a ++ b) s u := by
  obtain ⟨⟨bs, evs, hq, htaken, htr, hmap⟩, -⟩ := h
  obtain ⟨⟨bs', evs', hq', htaken', htr', hmap'⟩, hend⟩ := h'
  refine ⟨⟨bs ++ bs', evs ++ evs', ?_, by simp [htaken', htaken], by simp [htr', htr], by simp [hmap, hmap']⟩, hend⟩
  calc s.rxq ++ (a ++ b) = bs ++ (t.rxq ++ b) := by rw [← List.append_assoc, hq, List.append_assoc]
    _ = bs ++ bs' ++ u.rxq := by rw [hq', List.append_assoc]

/-! ## The sequencer's steps -/

/-- The receive ends without another byte (R143, R144). -/
theorem receives_endTransport {p : LinePhase} {st : Status} (hs : s.phase = .transport p) (hde : s.de = false)
    (htaken : s.taken = s.rsp) (hst : (st = .ok ∧ s.rsp ≠ []) ∨ (st = .rxTimeout ∧ s.rsp = [])) :
    Receives [] s (endTransport st s) := by
  rw [endTransport_alone (by simp [hs])]
  refine ⟨⟨[], [], by simp, ?_, by simp [hde], rfl⟩, fun _ => by simpa [State.ReceiveEnded] using hst⟩
  rw [taken_idle (finish_phase st s), htaken, finish_rsp, List.append_nil]

/-- A byte is taken: the receive goes on, or the capacity stop ends it `OK` (R141, R142). -/
theorem receives_takeByte {p : LinePhase} {b : Byte} {rest : List Byte} (hs : s.phase = .transport p)
    (hb : s.busy = true) (hde : s.de = false) (htaken : s.taken = s.rsp) (hq : s.rxq = b :: rest) :
    Receives [] s (takeByte b rest s) := by
  unfold takeByte
  simp only
  split
  · rw [endTransport_alone (by simp [hs])]
    refine ⟨⟨[b], [(.rx b, s.now)], by simp [hq], ?_, by simp [hde], rfl⟩, fun _ => by simp [State.ReceiveEnded]⟩
    rw [taken_idle (finish_phase _ _), htaken]
    simp
  · refine ⟨⟨[b], [(.rx b, s.now)], by simp [hq], ?_, by simp, rfl⟩, fun h => ?_⟩
    · rw [taken_collect (by simp [hs]), htaken]
      simp
    · simp [hb] at h

/-- One step of a receive takes the byte that has waited longest, or none (R62, R140, R141). -/
theorem receives_sequencerStep {p : LinePhase} (h : s.Inv) (hs : s.phase = .transport p) (hp : p.sending = false) :
    Receives [] s (sequencerStep s) := by
  have hb : s.busy = true := h.busy_iff.mpr (by simp [hs])
  have stay : Receives [] s s := receives_of_eq hb rfl rfl rfl (by simp) rfl
  have holds := h.holds (p := p) (by rw [hs]; rfl)
  rw [sequencerStep, hs]
  cases p with
  | rxWaitFirst =>
    obtain ⟨⟨hde, -⟩, hempty⟩ := holds
    simp only [lineStep, waitFirstPhase]
    split
    · exact ⟨⟨[], [], by simp, by simp [State.taken, hs], by simp, rfl⟩, fun h => by simp [hb] at h⟩
    · have hrsp : s.rsp = [] := hempty (by simp [*])
      have htaken : s.taken = s.rsp := by rw [hrsp, taken_waitFirst hs]
      split
      · exact receives_takeByte hs hb hde htaken ‹_›
      · split
        · exact receives_endTransport hs hde htaken (.inr ⟨rfl, hrsp⟩)
        · exact stay
  | rxCollect =>
    obtain ⟨⟨hde, -⟩, -, hlen, -⟩ := holds
    have htaken : s.taken = s.rsp := taken_collect hs
    simp only [lineStep, collectPhase]
    split
    · exact receives_takeByte hs hb hde htaken ‹_›
    · split
      · exact receives_endTransport hs hde htaken (.inl ⟨rfl, List.ne_nil_of_length_pos hlen⟩)
      · exact stay
  | _ => cases hp

/-! ## Every move -/

theorem receives_perform {e : Event} {p : LinePhase} (he : e.lineSide = true) (h : s.Inv)
    (hs : s.phase = .transport p) (hp : p.sending = false) (ht : perform e s = .next t) :
    Receives (delivered [e]) s t := by
  have hl : linePhase s.phase = some p := by rw [hs]; rfl
  have hb : s.busy = true := h.busy_iff.mpr (by simp [hs])
  have hq : s.Quiet := h.quiet (by rw [Phase.drives, hl]; exact LinePhase.drives_of_receiving hp)
  obtain ⟨hd, n, rfl⟩ | ⟨-, hw, -⟩ | hpass := perform_cases he ht
  · rw [hd]
    exact receives_sequencerStep (s := { s with now := s.now + n }) (h.later n) hs hp
  · rw [hl] at hw
    cases hw
    cases hp
  · obtain ⟨hde, hempty⟩ := hq
    exact receives_of_eq hb hpass.busy hpass.phase hpass.rsp (by simp [hpass.rxq, hde]) (hpass.still hempty).1

/-- Settles O32: what a `RECEIVE` has taken and what is left are what waited and what was delivered, and its end is one
R144 allows; the capacity is the invariant's. -/
theorem receiveTakesBytesInOrder : Obligations.ReceiveTakesBytesInOrder := by
  intro s t st ch hs hes ht hb
  have hphase : (startReceive (accept (commandWord 0x2#4 st ch) s)).phase = .transport .rxWaitFirst := by
    simp [startReceive, hs.phase]
  obtain ⟨used, hused, hinv, -, ⟨⟨bs, evs, hq, htaken, htr, hmap⟩, hend⟩, hcfg⟩ :=
    runCommand_course (i := .receive st ch) rfl (fun _ => .receive) hs hes ht
      (fun used v => Receives (delivered used) (startReceive (accept (commandWord 0x2#4 st ch) s)) v ∧ v.cfg = s.cfg)
      (fun _ _ _ h => h) ⟨receives_of_eq rfl rfl rfl rfl (by simp [delivered]) rfl, rfl⟩
      (fun used e v v' he hv _ hp hq hv' => by
        obtain ⟨p, hvp, hrecv⟩ := neverSends_receive st ch v.phase hp
        rw [delivered_append]
        exact ⟨hq.1.trans (receives_perform he hv hvp hrecv hv'), (perform_leaves hv').1.trans hq.2⟩)
  have hrsp : t.rsp = bs := by
    rwa [taken_idle (hinv.idle_of_not_busy hb), taken_waitFirst hphase, List.nil_append] at htaken
  subst hrsp
  refine ⟨⟨used, hused, hq⟩, ⟨evs, htr, hmap⟩, ?_⟩
  obtain ⟨hok, hne⟩ | htimeout := hend hb
  · exact .inl ⟨hok, List.length_pos_of_ne_nil hne, hcfg ▸ hinv.rsp_fits⟩
  · exact .inr htimeout

end Sys2Proof.Machine
end

section
/-! # No stale byte in an exchange

Until the flush of an `EXCHANGE` nothing that waits can be returned; from the flush on, everything taken or waiting has
been delivered during it (R63, R123). -/

namespace Sys2Proof.Machine

variable {s t : State} {p : LinePhase}

/-- The bytes the exchange in progress, or the one that has ended, can return: none of those the flush is about to
discard (R123). -/
def State.returnable (s : State) : List Byte :=
  match s.phase with
  | .transport .txFlush => []
  | .transport _ => s.taken ++ s.rxq
  | _ => s.rsp

theorem returnable_flush (hp : s.phase = .transport .txFlush) : s.returnable = [] := by rw [State.returnable, hp]

theorem returnable_idle (hp : s.phase = .idle) : s.returnable = s.rsp := by rw [State.returnable, hp]

/-- While the request is being sent, after the flush, what waits can be returned. -/
theorem returnable_sending (hs : s.phase = .transport p) (hp : p.sending = true) (hf : p ≠ .txFlush) :
    s.returnable = s.rxq := by
  rw [State.returnable, State.taken, hs]
  cases p with
  | txFlush => exact absurd rfl hf
  | rxWaitFirst | rxCollect => cases hp
  | _ => rfl

theorem returnable_receiving (hs : s.phase = .transport p) (hp : p.sending = false) :
    s.returnable = s.taken ++ s.rxq := by
  rw [State.returnable, hs]
  cases p with
  | rxWaitFirst | rxCollect => rfl
  | _ => cases hp

/-- Where no byte has been taken, at most what waits can be returned. -/
theorem returnable_enter {q : LinePhase} (hs : s.phase = .transport p) (hq : q ≠ .rxCollect) :
    (enter q s).returnable.Sublist s.rxq := by
  simp only [State.returnable, State.taken, enter_phase, enter_rxq, hs]
  cases q with
  | txFlush => exact List.nil_sublist _
  | rxCollect => exact absurd rfl hq
  | _ => exact .refl _

theorem returnable_sublist (s : State) : s.returnable.Sublist (s.taken ++ s.rxq) := by
  unfold State.returnable
  split
  · exact List.nil_sublist _
  · exact .refl _
  · rename_i hs
    rw [State.taken]
    split
    · exact absurd ‹_› (hs _)
    · exact absurd ‹_› (hs _)
    · exact List.sublist_append_left _ _

/-- What a receive can return waited to be returned or has arrived. -/
theorem Receives.returnable {arrived : List Byte} (h : Receives arrived s t) (hs : s.phase = .transport p)
    (hp : p.sending = false) : t.returnable.Sublist (s.returnable ++ arrived) := by
  obtain ⟨⟨bs, -, hq, htaken, -⟩, -⟩ := h
  have all : t.taken ++ t.rxq = s.returnable ++ arrived := by
    rw [returnable_receiving hs hp, htaken, List.append_assoc, ← hq, List.append_assoc]
  exact all ▸ returnable_sublist t

/-- A transmission that fails leaves nothing to return (R151, R212). -/
theorem returnable_failTransmit (hs : ∀ q, s.phase ≠ .attempting q) (hx : exchanging s = true) :
    (failTransmit s).returnable = [] := by
  rw [failTransmit, if_pos hx, endTransport_alone (s := writeRsp [] s) hs, returnable_idle (finish_phase _ _)]
  simp

theorem returnable_abortTransmit (hs : s.phase = .transport p) (hx : exchanging s = true) :
    (abortTransmit s).returnable = [] :=
  returnable_failTransmit (by simp [hs]) (by simpa [exchanging] using hx)

/-- A step of the transmit part adds nothing that can be returned. -/
theorem returnable_sequencerStep_sending (hs : s.phase = .transport p) (hp : p.sending = true)
    (hx : exchanging s = true) : (sequencerStep s).returnable.Sublist s.returnable := by
  have stay : s.returnable.Sublist s.returnable := .refl _
  have abort : (abortTransmit s).returnable.Sublist s.returnable := by
    rw [returnable_abortTransmit hs hx]
    exact List.nil_sublist _
  have enters : ∀ {u : State} {q : LinePhase}, p ≠ .txFlush → u.phase = s.phase → u.rxq = s.rxq → q ≠ .rxCollect →
      (enter q u).returnable.Sublist s.returnable := fun hf hu hq hc => by
    rw [returnable_sending hs hp hf, ← hq]
    exact returnable_enter (hu.trans hs) hc
  rw [sequencerStep, hs]
  cases p with
  | txFlush =>
    have flushed := returnable_enter (s := uartFlush s) (q := .txAssert) hs (by decide)
    exact flushed.trans (List.nil_sublist _)
  | txAssert => exact enters (u := raiseDe { s with timers := _ }) (by decide) rfl rfl (by decide)
  | txSettle =>
    simp only [lineStep]
    split
    · exact enters (u := { s with timers := _ }) (by decide) rfl rfl (by simp)
    · exact stay
  | txWrite n =>
    simp only [lineStep, writePhase]
    split_ifs
    · exact enters (u := uartWrite _ s) (by simp) rfl rfl (by simp)
    · exact abort
    · exact stay
    · exact enters (u := { s with timers := _ }) (by simp) rfl rfl (by decide)
  | txWaitTc =>
    simp only [lineStep, waitTcPhase]
    split_ifs
    · exact enters (u := { s with timers := _ }) (by decide) rfl rfl (by decide)
    · exact abort
    · exact stay
  | txHold =>
    simp only [lineStep]
    split
    · exact enters (by decide) rfl rfl (by decide)
    · exact stay
  | txRelease =>
    simp only [lineStep, releasePhase, if_pos hx, startReceive]
    exact enters (u := { lowerDe s with timers := {} }) (by decide) (lowerDe_phase s) (lowerDe_rxq s) (by decide)
  | rxWaitFirst | rxCollect => cases hp

theorem returnable_passive {e : Event} (h : Passive e s t) : t.returnable.Sublist (s.returnable ++ delivered [e]) := by
  have hq : t.rxq.Sublist (s.rxq ++ delivered [e]) := by
    rw [h.rxq]
    split
    · exact List.sublist_append_left _ _
    · exact .refl _
  simp only [State.returnable, State.taken, h.phase, h.rsp]
  split
  · exact List.nil_sublist _
  · rw [List.append_assoc]
    exact hq.append_left _
  · exact List.sublist_append_left _ _

/-- Every move of an exchange: what can be returned afterwards could be before, or has been delivered in it. -/
theorem returnable_perform {e : Event} (he : e.lineSide = true) (h : s.Inv) (hs : s.phase = .transport p)
    (hx : exchanging s = true) (ht : perform e s = .next t) : t.returnable.Sublist (s.returnable ++ delivered [e]) := by
  cases hp : p.sending with
  | false => exact (receives_perform he h hs hp ht).returnable hs hp
  | true =>
    obtain ⟨hd, n, rfl⟩ | ⟨-, -, rfl⟩ | hpass := perform_cases he ht
    · rw [hd, List.append_nil]
      exact returnable_sequencerStep_sending (s := { s with now := s.now + n }) hs hp hx
    · rw [returnable_abortTransmit hs hx]
      exact List.nil_sublist _
    · exact returnable_passive hpass

/-- An exchange that begins can return nothing: it is refused, or its flush is to come (R63, R123). -/
theorem returnable_startTransmit (hs : s.phase = .idle) (hx : exchanging s = true) :
    (startTransmit s).returnable = [] := by
  unfold startTransmit
  split
  · exact returnable_failTransmit (by simp [hs]) hx
  · exact returnable_flush (by simp [hs])

/-- A running `EXCHANGE` is in a phase of the transport, outside any attempt (R150). -/
theorem exchange_phase {st : Bool} {ch : Word} (hr : s.Runs (.exchange st ch))
    (h : CommandPhase (.exchange st ch) s.phase) : ∃ p, s.phase = .transport p ∧ exchanging s = true := by
  cases hs : s.phase with
  | transport p =>
    have hc : commandWord 0x3#4 st ch = s.cmd := Fetched.command.inj hr.1
    exact ⟨p, rfl, by simp [exchanging, hs, ← hc]⟩
  | _ =>
    rw [hs] at h
    exact h.elim

/-- Settles O41: what an `EXCHANGE` can return is nothing when it begins, and grows only by what is delivered. -/
theorem exchangeReturnsNoStaleByte : Obligations.ExchangeReturnsNoStaleByte := by
  intro s t st ch hs hes ht hb
  obtain ⟨used, hused, hinv, -, hret⟩ :=
    runCommand_course (i := .exchange st ch) rfl (fun _ => .exchange) hs hes ht
      (fun used v => v.returnable.Sublist (delivered used)) (fun _ _ _ h => h)
      (by rw [returnable_startTransmit (by simp [hs.phase]) (by simp [exchanging, hs.phase])]; exact List.nil_sublist _)
      (fun used e v v' he hv hr hp hq hv' => by
        obtain ⟨p, hvp, hx⟩ := exchange_phase hr hp
        rw [delivered_append]
        exact (returnable_perform he hv hvp hx hv').trans (hq.append_right _))
  exact ⟨used, hused, returnable_idle (hinv.idle_of_not_busy hb) ▸ hret⟩

end Sys2Proof.Machine
end

section
/-! # The wire trace of a transmission

In every phase of a `TRANSMIT` the bytes of `REQ` that have been handed over are, in offset order, those the trace
shows, the one in the shift register and those queued (`Wire`); each transport phase adds what it knows of the timers
(`LinePhase.Traces`). -/

namespace Sys2Proof.Machine

variable {s v v' : State} {head sent : List (WireEvent × Nat)} {n : Nat} {p : LinePhase}

/-- Of the transmission begun in `s`: the trace has gained `head` and then the events `sent` of the bytes that have
left; these, the shift register and the queue hold the first `n` bytes of `REQ` in order. `t_hold` runs from the last
of the events (R229). -/
structure Wire (s : State) (head : List (WireEvent × Nat)) (n : Nat) (sent : List (WireEvent × Nat)) (v : State) :
    Prop where
  cfg : v.cfg = s.cfg
  req : v.req = s.req
  trace : v.trace = s.trace ++ head ++ sent
  order : sent.map (·.1) ++ (v.txsr.toList ++ v.txq).map .tx = (s.req.take n).map .tx
  held : ∀ r ∈ sent, r.2 ≤ v.now ∧ ∃ d, v.timers.hold = some d ∧ r.2 + s.cfg.tHold ≤ d

/-- The line has been raised and has settled, and `n` bytes have been handed over since (R126, R127). -/
def Sending (s : State) (n : Nat) (v : State) : Prop :=
  ∃ k t0 t1 sent, Wire s [(.flush k, t0), (.deUp, t1)] n sent v ∧ t1 + s.cfg.tSettle ≤ v.now ∧
    ∀ r ∈ sent, t1 + s.cfg.tSettle ≤ r.2

/-- What each phase of the transmission begun in `s` has left in the trace. -/
def LinePhase.Traces (s : State) : LinePhase → State → Prop
  | .txFlush, v => Wire s [] 0 [] v
  | .txAssert, v => ∃ k t0, Wire s [(.flush k, t0)] 0 [] v
  | .txSettle, v =>
    ∃ k t0 t1, Wire s [(.flush k, t0), (.deUp, t1)] 0 [] v ∧ v.timers.settle = some (t1 + s.cfg.tSettle)
  | .txWrite i, v => Sending s i v
  | .txWaitTc, v => Sending s s.req.length v
  | .txHold, v => Sending s s.req.length v
  | .txRelease, v => Sending s s.req.length v ∧ ∃ d, v.timers.hold = some d ∧ d ≤ v.now
  | .rxWaitFirst, _ => False
  | .rxCollect, _ => False

/-- How the transmission begun in `s` has ended: with one of the two traces of R61. -/
def Transmitted (s v : State) : Prop :=
  ∃ (k t0 t1 t2 : Nat) (sent : List (WireEvent × Nat)),
    v.trace = s.trace ++ [(.flush k, t0), (.deUp, t1)] ++ sent ++ [(.deDown, t2)] ∧
    (∀ r ∈ sent, t1 + s.cfg.tSettle ≤ r.2) ∧
    ((v.status = .ok ∧ sent.map (·.1) = s.req.map .tx ∧ ∀ r ∈ sent, r.2 + s.cfg.tHold ≤ t2) ∨
     (v.status = .txError ∧ sent.map (·.1) <+: s.req.map .tx))

/-- The transmission begun in `s` is in a phase of sending with that phase's trace, or has ended with its own. -/
def Transmission (s v : State) : Prop :=
  (∃ p, v.phase = .transport p ∧ p.Traces s v) ∨ (v.busy = false ∧ Transmitted s v)

/-! ## The moves of the transmitter, the line and the clock -/

/-- Nothing of the transmission has changed, but time may have passed. -/
structure SameWire (v v' : State) : Prop where
  cfg : v'.cfg = v.cfg
  req : v'.req = v.req
  trace : v'.trace = v.trace
  txq : v'.txq = v.txq
  txsr : v'.txsr = v.txsr
  hold : v'.timers.hold = v.timers.hold
  now : v.now ≤ v'.now

/-- A passive move that leaves the transmitter alone. -/
theorem Passive.sameWire {e : Event} (h : Passive e v v')
    (hw : v'.trace = v.trace ∧ v'.txq = v.txq ∧ v'.txsr = v.txsr ∧ v'.timers = v.timers) : SameWire v v' := by
  obtain ⟨htrace, htxq, htxsr, htimers⟩ := hw
  exact ⟨h.cfg, h.req, htrace, htxq, htxsr, by rw [htimers], h.now⟩

theorem Wire.same (h : Wire s head n sent v) (hv : SameWire v v') : Wire s head n sent v' where
  cfg := hv.cfg.trans h.cfg
  req := hv.req.trans h.req
  trace := hv.trace.trans h.trace
  order := by rw [hv.txsr, hv.txq, h.order]
  held r hr := by
    obtain ⟨hnow, hd⟩ := h.held r hr
    rw [hv.hold]
    exact ⟨hnow.trans hv.now, hd⟩

theorem Sending.same (h : Sending s n v) (hv : SameWire v v') : Sending s n v' := by
  obtain ⟨k, t0, t1, sent, hw, hnow, hsettled⟩ := h
  exact ⟨k, t0, t1, sent, hw.same hv, hnow.trans hv.now, hsettled⟩

theorem LinePhase.Traces.same (h : p.Traces s v) (hv : SameWire v v') (ht : v'.timers = v.timers) : p.Traces s v' := by
  cases p with
  | txFlush => exact Wire.same h hv
  | txAssert =>
    obtain ⟨k, t0, hw⟩ := h
    exact ⟨k, t0, hw.same hv⟩
  | txSettle =>
    obtain ⟨k, t0, t1, hw, hs⟩ := h
    exact ⟨k, t0, t1, hw.same hv, by rw [ht, hs]⟩
  | txWrite | txWaitTc | txHold => exact Sending.same h hv
  | txRelease =>
    obtain ⟨hsend, d, hd, hle⟩ := h
    exact ⟨hsend.same hv, d, by rw [ht, hd], hle.trans hv.now⟩
  | rxWaitFirst | rxCollect => exact h

/-- The head of the queue moves into the empty shift register: the order of the bytes stays (R27). -/
theorem Wire.load (h : Wire s head n sent v) : Wire s head n sent (uartLoad v) where
  cfg := by simp [h.cfg]
  req := by simp [h.req]
  trace := by simp [h.trace]
  order := by rw [uartLoad_bytes, h.order]
  held := by simpa using h.held

theorem Sending.load (h : Sending s n v) : Sending s n (uartLoad v) := by
  obtain ⟨k, t0, t1, sent, hw, hnow, hsettled⟩ := h
  exact ⟨k, t0, t1, sent, hw.load, by simpa using hnow, hsettled⟩

/-- The byte in the shift register has left: its event is the next of the trace, and the hold runs afresh from it (R127,
R229). -/
theorem Wire.shift {b : Byte} (h : Wire s head n sent v) (hb : v.txsr = some b) :
    Wire s head n (sent ++ [(.tx b, v.now)]) (uartShift v) := by
  rw [uartShift_of_byte hb]
  refine ⟨h.cfg, h.req, by simp [h.trace], by simpa [hb] using h.order, fun r hr => ?_⟩
  have past : r.2 ≤ v.now := by
    obtain hr | rfl := (List.mem_append.mp hr).imp_right List.mem_singleton.mp
    · exact (h.held r hr).1
    · exact le_rfl
  exact ⟨past, v.now + v.cfg.tHold, rfl, by rw [h.cfg]; omega⟩

theorem Sending.shift (h : Sending s n v) : Sending s n (uartShift v) := by
  cases hb : v.txsr with
  | none => rwa [uartShift_of_empty hb]
  | some b =>
    obtain ⟨k, t0, t1, sent, hw, hnow, hsettled⟩ := h
    refine ⟨k, t0, t1, _, hw.shift hb, by simpa using hnow, fun r hr => ?_⟩
    obtain hr | rfl := (List.mem_append.mp hr).imp_right List.mem_singleton.mp
    · exact hsettled r hr
    · exact hnow

/-- Before the first byte is handed over the transmitter is empty. -/
theorem Wire.empty (h : Wire s head 0 [] v) : v.txq = [] ∧ v.txsr = none := by
  have hnil : v.txsr = none ∧ v.txq = [] := by simpa using h.order
  exact hnil.symm

/-- A passive move keeps the trace that the phase has left. -/
theorem traces_passive {e : Event} (h : p.Traces s v) (hv : v.Inv) (hp : v.phase = .transport p) (hm : Passive e v v') :
    p.Traces s v' := by
  have still : (v.txq = [] ∧ v.txsr = none) → p.Traces s v' := fun hempty => by
    obtain ⟨-, -, -, htimers⟩ := hm.still hempty
    exact h.same (hm.sameWire (hm.still hempty)) htimers
  have moved : ∀ {n}, Sending s n v → Sending s n v' := fun {n} hs => by
    obtain rfl | rfl | hw := hm.wire
    · exact hs.load
    · exact hs.shift
    · exact hs.same (hm.sameWire hw)
  have hl : linePhase v.phase = some p := by rw [hp]; rfl
  cases p with
  | txFlush => exact still (Wire.empty h)
  | txAssert =>
    obtain ⟨k, t0, hw⟩ := id h
    exact still hw.empty
  | txSettle =>
    obtain ⟨k, t0, t1, hw, -⟩ := id h
    exact still hw.empty
  | txWrite | txWaitTc => exact moved h
  | txHold => exact still (hv.drained (.inl hl))
  | txRelease => exact still (hv.drained (.inr hl))
  | rxWaitFirst | rxCollect => exact h.elim

/-! ## The sequencer's steps -/

theorem transmission_enter {q : LinePhase} {u : State} (hp : u.phase = .transport p) (h : q.Traces s u) :
    Transmission s (enter q u) :=
  .inl ⟨q, by simp [hp], h.same ⟨rfl, rfl, rfl, rfl, rfl, rfl, le_rfl⟩ rfl⟩

/-- The error exit: the bytes that have left are the first of the request, and `DE_DOWN` is the last event (R133). -/
theorem transmission_abort (h : Sending s n v) (hp : v.phase = .transport p) (hx : exchanging v = false)
    (hde : v.de = true) : Transmission s (abortTransmit v) := by
  obtain ⟨k, t0, t1, sent, hw, -, hsettled⟩ := h
  have habort : abortTransmit v = finish .txError (lowerDe { v with txq := [], txsr := none, timers := {} }) := by
    rw [abortTransmit, failTransmit, if_neg (by simpa [exchanging] using hx), endTransport_alone (by simp [hp])]
  rw [habort]
  refine .inr ⟨finish_busy _ _, k, t0, t1, v.now, sent, by simp [hde, hw.trace], hsettled, .inr ⟨by simp, ?_⟩⟩
  calc sent.map (·.1) <+: (s.req.take n).map .tx := ⟨_, hw.order⟩
    _ <+: s.req.map .tx := (List.take_prefix _ _).map _

/-- The release after the whole request (R131). -/
theorem transmission_release (h : LinePhase.txRelease.Traces s v) (hv : v.Inv) (hp : v.phase = .transport .txRelease)
    (hx : exchanging v = false) : Transmission s (releasePhase v) := by
  obtain ⟨⟨k, t0, t1, sent, hw, -, hsettled⟩, d, hd, hle⟩ := h
  obtain ⟨hde, -, hq, hr⟩ := hv.holds (p := .txRelease) (by rw [hp]; rfl)
  have hall : sent.map (·.1) = s.req.map .tx := by simpa [hq, hr] using hw.order
  rw [releasePhase, if_neg (by simp [hx]), endTransport_alone (by simp [hp])]
  refine .inr ⟨finish_busy _ _, k, t0, t1, v.now, sent, by simp [hde, hw.trace], hsettled,
    .inl ⟨by simp, hall, fun r hr => ?_⟩⟩
  obtain ⟨-, d', hd', hle'⟩ := hw.held r hr
  rw [hd] at hd'
  cases hd'
  omega

/-- With room, the next byte of the request joins the queue (R127). -/
theorem Sending.write (h : Sending s n v) (hn : n < v.req.length) :
    Sending s (n + 1) (uartWrite (byteAt v.req n) v) := by
  obtain ⟨k, t0, t1, sent, hw, hnow, hsettled⟩ := h
  refine ⟨k, t0, t1, sent, ⟨hw.cfg, hw.req, hw.trace, ?_, hw.held⟩, hnow, hsettled⟩
  rw [hw.req] at hn ⊢
  have hb : byteAt s.req n = s.req[n] := by simp [byteAt, hn]
  rw [uartWrite_txq, uartWrite_txsr, ← List.append_assoc, List.map_append, ← List.append_assoc, hw.order,
    ← List.take_append_getElem hn, List.map_append, hb]

/-- Past the last byte the whole request has been handed over. -/
theorem Sending.whole (h : Sending s n v) (hn : v.req.length ≤ n) : Sending s s.req.length v := by
  obtain ⟨k, t0, t1, sent, hw, hrest⟩ := h
  refine ⟨k, t0, t1, sent, ⟨hw.cfg, hw.req, hw.trace, ?_, hw.held⟩, hrest⟩
  rw [hw.order, List.take_length, List.take_of_length_le (hw.req ▸ hn)]

theorem expired_iff {d : Option Nat} {now : Nat} : expired d now = true ↔ ∃ t, d = some t ∧ t ≤ now := by
  cases d <;> simp [expired]

/-- Every step of the sequencer goes on with the trace or ends it as R61 allows. -/
theorem transmission_sequencerStep (h : p.Traces s v) (hv : v.Inv) (hp : v.phase = .transport p)
    (hx : exchanging v = false) : Transmission s (sequencerStep v) := by
  have stay : Transmission s v := .inl ⟨p, hp, h⟩
  have holds := hv.holds (p := p) (by rw [hp]; rfl)
  rw [sequencerStep, hp]
  cases p with
  | txFlush =>
    refine transmission_enter (u := uartFlush v) hp ⟨v.rxq.length, v.now, ?_⟩
    exact ⟨h.cfg, h.req, by simp [Wire.trace h], h.order, h.held⟩
  | txAssert =>
    obtain ⟨k, t0, hw⟩ := h
    refine transmission_enter (u := raiseDe { v with timers := _ }) hp ⟨k, t0, v.now, ?_, by simp [hw.cfg]⟩
    exact ⟨hw.cfg, hw.req, by simp [hw.trace], hw.order, by simp⟩
  | txSettle =>
    obtain ⟨k, t0, t1, hw, hsettle⟩ := h
    simp only [lineStep]
    split
    · obtain ⟨d, hd, hle⟩ := expired_iff.mp ‹_›
      cases hsettle.symm.trans hd
      refine transmission_enter (u := { v with timers := _ }) hp ⟨k, t0, t1, [], ?_, hle, by simp⟩
      exact ⟨hw.cfg, hw.req, hw.trace, hw.order, by simp⟩
    · exact stay
  | txWrite i =>
    simp only [lineStep, writePhase]
    split_ifs
    · exact transmission_enter (u := uartWrite _ v) hp (Sending.write h ‹_›)
    · exact transmission_abort h hp hx holds.1
    · exact stay
    · exact transmission_enter (u := { v with timers := _ }) hp
        ((Sending.whole h (by omega)).same ⟨rfl, rfl, rfl, rfl, rfl, rfl, le_rfl⟩)
  | txWaitTc =>
    simp only [lineStep, waitTcPhase]
    split_ifs
    · exact transmission_enter (u := { v with timers := _ }) hp
        (Sending.same h ⟨rfl, rfl, rfl, rfl, rfl, rfl, le_rfl⟩)
    · exact transmission_abort h hp hx holds.1
    · exact stay
  | txHold =>
    simp only [lineStep]
    split
    · exact transmission_enter hp ⟨h, expired_iff.mp ‹_›⟩
    · exact stay
  | txRelease => exact transmission_release h hv hp hx
  | rxWaitFirst | rxCollect => exact h.elim

/-! ## Every move -/

theorem transmission_perform {e : Event} (he : e.lineSide = true) (h : p.Traces s v) (hv : v.Inv)
    (hp : v.phase = .transport p) (hx : exchanging v = false) (hv' : perform e v = .next v') : Transmission s v' := by
  obtain ⟨-, n, rfl⟩ | ⟨-, hl, rfl⟩ | hm := perform_cases he hv'
  · have hlater : p.Traces s { v with now := v.now + n } :=
      h.same ⟨rfl, rfl, rfl, rfl, rfl, rfl, Nat.le_add_right _ _⟩ rfl
    exact transmission_sequencerStep hlater (hv.later n) hp hx
  · rw [hp] at hl
    cases hl
    exact transmission_abort h hp hx (hv.holds (p := .txWaitTc) (by rw [hp]; rfl)).1
  · exact .inl ⟨p, hm.phase.trans hp, traces_passive h hv hp hm⟩

/-- An operand that passes the length check is sent from the flush on (R121, R122). -/
theorem transmission_startTransmit {w : CommandWord} (hs : s.ready) (hover : s.reqOver = none)
    (hlen : 1 ≤ s.req.length) : Transmission s (startTransmit (accept w s)) := by
  have hfits := hs.1.req_fits
  have hop : requestOperand (accept w s) = s.req := by simp [requestOperand, hover]
  rw [startTransmit, hop, if_neg (by rw [accept_cfg]; omega)]
  exact .inl ⟨.txFlush, by simp [hs.phase], rfl, rfl, by simp, by simp [hs.txq, hs.txsr], by simp⟩

/-- Settles O27: a `TRANSMIT` keeps the trace of its phase until it ends, and `DE = 0` is the invariant's. -/
theorem transmitTraceOnEveryLine : Obligations.TransmitTraceOnEveryLine := by
  intro s t st ch hs hes hover hlen ht hb
  obtain ⟨-, -, hinv, -, htrans⟩ :=
    runCommand_course (i := .transmit st ch) rfl (fun _ => .transmit) hs hes ht
      (fun _ v => Transmission s v)
      (fun _ v es h => h.imp
        (fun ⟨p, hp, htr⟩ => ⟨p, hp, htr.same ⟨rfl, rfl, rfl, rfl, rfl, rfl, le_rfl⟩ rfl⟩) id)
      (transmission_startTransmit hs hover hlen)
      (fun _ e v v' he hv hr _ htrans hv' => by
        obtain ⟨p, hp, htr⟩ := htrans.resolve_right fun hend => absurd (hr.2.1.symm.trans hend.1) (by decide)
        have hx := not_exchanging (Fetched.command.inj hr.1) hp (by decide)
        exact transmission_perform he htr hv hp hx hv')
  refine ⟨hinv.lineReleased hb, ?_⟩
  obtain ⟨p, hp, -⟩ | ⟨-, htr⟩ := htrans
  · exact absurd (hp.symm.trans (hinv.idle_of_not_busy hb)) Phase.noConfusion
  · exact htr

end Sys2Proof.Machine
end

section
/-! # Decoder and encoder

The ten commands share the fields of their word: `commandWord_fields` puts a word together again from them, and
`decodeCommand_ok` and `decodeCommand_error_iff` say once what the decoder answers. -/

namespace Sys2Proof

/-! ## The fields of a command word -/

theorem toNat_opField (w : CommandWord) : (opField w).toNat = w.toNat / 2 ^ 20 := by
  have hw := w.isLt
  rw [opField, BitVec.extractLsb'_toNat, Nat.shiftRight_eq_div_pow]
  omega

theorem toNat_reservedField (w : CommandWord) : (reservedField w).toNat = w.toNat / 2 ^ 17 % 8 := by
  rw [reservedField, BitVec.extractLsb'_toNat, Nat.shiftRight_eq_div_pow]

theorem reservedField_ne_zero_iff (w : CommandWord) : reservedField w ≠ 0#3 ↔ w.toNat / 2 ^ 17 % 8 ≠ 0 := by
  rw [← toNat_reservedField, ne_eq, ← BitVec.toNat_inj]
  rfl

theorem ofBool_stateField (w : CommandWord) : BitVec.ofBool (stateField w) = w.extractLsb' 16 1 := by
  ext i hi
  simp [stateField, show i = 0 by omega]

/-- A command word is its four fields and nothing else (R71). -/
theorem commandWord_fields {w : CommandWord} (h : reservedField w = 0#3) :
    commandWord (opField w) (stateField w) (chanField w) = w := by
  rw [commandWord, ← h, ofBool_stateField, opField, reservedField, chanField,
    BitVec.extractLsb'_append_extractLsb'_eq_extractLsb' (by decide),
    BitVec.extractLsb'_append_extractLsb'_eq_extractLsb' (by decide),
    BitVec.extractLsb'_append_extractLsb'_eq_extractLsb' (by decide)]
  exact BitVec.extractLsb'_eq_self

/-! ## What the decoder answers on a command word -/

theorem command_of_opField {w : CommandWord} {op : BitVec 4} {st : Bool} {ch : Word}
    (h : (opField w).toNat = op.toNat) :
    Fetched.command (commandWord op st ch) = .command (commandWord (opField w) st ch) := by
  rw [BitVec.eq_of_toNat_eq h]

/-- What decodes from a command word has the word's own `OP`, `STATE` and `CHAN`, and its reserved bits are 0 (R72, R73). -/
theorem decodeCommand_ok {w : CommandWord} {i : Instr} (h : decodeCommand w = .ok i) :
    reservedField w = 0#3 ∧ i.wellFormed = true ∧
    encode i = .command (commandWord (opField w) (stateField w) (chanField w)) := by
  unfold decodeCommand at h
  split at h
  · cases h
  · have hres : reservedField w = 0#3 := not_not.mp ‹_›
    split at h <;> cases h <;> exact ⟨hres, rfl, command_of_opField ‹_›⟩

/-- The decoder rejects the opcodes without a row and the words with a reserved bit set, and no others (R73). -/
theorem decodeCommand_error_iff (w : CommandWord) :
    (∃ r, decodeCommand w = .error r) ↔ 10 ≤ (opField w).toNat ∨ reservedField w ≠ 0#3 := by
  unfold decodeCommand
  split
  · exact iff_of_true ⟨_, rfl⟩ (.inr ‹_›)
  · split
    case h_11 =>
      simp only [imp_false] at *
      exact iff_of_true ⟨_, rfl⟩ (.inl (by omega))
    all_goals exact iff_of_false (fun ⟨_, h⟩ => nomatch h) (not_or.mpr ⟨by omega, ‹_›⟩)

/-- Settles O4: `decodeCommand_error_iff`, with the two fields as numbers. -/
theorem onlyReservedWordsAreRejected : Obligations.OnlyReservedWordsAreRejected := by
  intro w
  rw [← toNat_opField, ← reservedField_ne_zero_iff]
  exact decodeCommand_error_iff w

/-! ## The two directions -/

/-- Settles O1: a command's word has the fields it was made of, and a frame's literal bytes are those the decoder looks
at, its value byte being one of the two allowed. -/
theorem decodeOfEncodeIsTheInstruction : Obligations.DecodeOfEncodeIsTheInstruction := by
  intro i hi
  cases i with
  | crc16 | transmit | receive | exchange | buildWc | buildRc | validateWc | parseRc | writeCoil | readCoils =>
    simp [encode, decode, decodeCommand]
  | frameWriteCoilRequest a h l v c d =>
    have hv : valueByteOk v = true := hi
    simp [encode, decode, decodeRequest, hv]
  | frameReadCoilsRequest a c d => simp [encode, decode, decodeRequest]
  | frameWriteCoilResponse a h l v c d =>
    have hv : valueByteOk v = true := hi
    simp [encode, decode, decodeResponse, hv]
  | frameReadCoilsResponse a m c d => simp [encode, decode, decodeResponse]

theorem decodeRequest_ok {bytes : List Byte} {i : Instr} (h : decodeRequest bytes = .ok i) :
    encode i = .request bytes ∧ i.wellFormed = true := by
  unfold decodeRequest at h
  split at h
  · split_ifs at h with hw hr
    · obtain ⟨rfl, rfl, hv⟩ := hw
      cases h
      exact ⟨rfl, hv⟩
    · obtain ⟨rfl, rfl, rfl, rfl, rfl⟩ := hr
      cases h
      exact ⟨rfl, rfl⟩
  · cases h

theorem decodeResponse_ok {bytes : List Byte} {i : Instr} (h : decodeResponse bytes = .ok i) :
    encode i = .response bytes ∧ i.wellFormed = true := by
  unfold decodeResponse at h
  split at h
  · split_ifs at h with hw
    obtain ⟨rfl, rfl, hv⟩ := hw
    cases h
    exact ⟨rfl, hv⟩
  · split_ifs at h with hr
    obtain ⟨rfl, rfl⟩ := hr
    cases h
    exact ⟨rfl, rfl⟩
  · cases h

/-- Settles O2, side by side: a command word by its fields, a frame by its literal bytes. -/
theorem encodeOfDecodeIsTheWord : Obligations.EncodeOfDecodeIsTheWord := by
  intro f i h
  cases f with
  | command w =>
    obtain ⟨hres, hwf, henc⟩ := decodeCommand_ok h
    exact ⟨by rw [henc, commandWord_fields hres], hwf⟩
  | request bytes => exact decodeRequest_ok h
  | response bytes => exact decodeResponse_ok h

/-- Settles O3: closed words, evaluated. -/
theorem sampleWordsDecode : Obligations.SampleWordsDecode := by
  unfold Obligations.SampleWordsDecode
  decide

end Sys2Proof
end

section
/-! # The wire frames, and how table words and reserved words are presented -/

namespace Sys2Proof.Machine

/-! ## Presented words -/

/-- Settles O5: the decoder rejects the word, and the port rejects the command. -/
theorem reservedCommandChangesOnlyStatusAndDone : Obligations.ReservedCommandChangesOnlyStatusAndDone := by
  intro s w tmo data es hs hb hw
  obtain ⟨r, hr⟩ := (onlyReservedWordsAreRejected w).mpr hw
  simp [step, hs, fetchAndRun, acceptWord, hb, hr, rejectCommand]

theorem decode_of_decodeTableWord {nbits w : Nat} {i : Instr} (h : decodeTableWord nbits w = some i) :
    decode (fetchedOfTableWord nbits w) = .ok i := by
  unfold decodeTableWord at h
  split at h
  · rwa [← Option.some.inj h]
  · cases h

/-- Settles O7: a table word's move is one of the three of O6, and a command word's operands are those that stand on
the port. -/
theorem stepRunsTheTableWord : Obligations.StepRunsTheTableWord := by
  intro s nbits w i hb hi
  obtain ⟨hcommand, hrequest, hresponse⟩ := stepRunsTheDecodedInstruction
  have hdec := decode_of_decodeTableWord hi
  unfold State.withFetchWord
  generalize fetchedOfTableWord nbits w = f at hdec ⊢
  cases f with
  | command c => exact hcommand _ c _ _ s.script i rfl hb hdec
  | request bytes => exact hrequest _ bytes s.script i rfl hdec
  | response bytes => exact hresponse _ bytes s.script i rfl hdec

/-! ## Frames and their CRC -/

/-- The body of a frame is what stands before its CRC. -/
theorem take_withCrc (body : List Byte) {n : Nat} (h : n = body.length) : (withCrc body).take n = body := by
  rw [withCrc, List.take_left' h.symm]

/-- A body of two bytes or more with its CRC is a well-formed frame (R75). -/
theorem frameCrcOk_withCrc {body : List Byte} (h : 2 ≤ body.length) : frameCrcOk (withCrc body) = true := by
  have htake : (withCrc body).take ((withCrc body).length - 2) = body := take_withCrc body (by simp)
  rw [frameCrcOk, htake]
  simp [h]

theorem byteAt_withCrc_lo (body : List Byte) {n : Nat} (h : n = body.length) :
    byteAt (withCrc body) n = lo8 (crc16 body) := by
  simp [byteAt, withCrc, h]

theorem byteAt_withCrc_hi (body : List Byte) {n : Nat} (h : n = body.length + 1) :
    byteAt (withCrc body) n = hi8 (crc16 body) := by
  simp [byteAt, withCrc, h]

/-- The echo of a request of eight bytes is accepted for it: the CRC matches and no byte differs (R78, R172). -/
theorem validateWriteCoil_echo {body : List Byte} (h : body.length = 6) :
    validateWriteCoil (withCrc body) (withCrc body) = { status := .ok, crc := some (crc16 body) } := by
  simp [validateWriteCoil, h, take_withCrc body h.symm, byteAt_withCrc_lo body h.symm,
    byteAt_withCrc_hi body (n := 7) (by omega)]

/-- Settles O17: both bodies have six bytes, whatever the configuration, the state and the channel. -/
theorem builtRequestsAreWellFormed : Obligations.BuiltRequestsAreWellFormed := by
  intro c st ch
  have hw : (writeCoilBody c st ch).length = 6 := rfl
  have hr : (readCoilsBody c).length = 6 := rfl
  exact ⟨by simp [hw], frameCrcOk_withCrc (by simp [hw]), by simp [hr], frameCrcOk_withCrc (by simp [hr]),
    by rw [validateWriteCoil_echo hw]⟩

/-! ## The host's loads -/

/-- A load of `REQ` while the block is busy has no meaning (R264). -/
theorem loadRequest_busy {s : State} (h : s.busy = true) (bytes : List Byte) :
    loadRequest bytes s = .refused .operandsChangedWhileBusy := if_pos h

theorem loadResponse_busy {s : State} (h : s.busy = true) (bytes : List Byte) :
    loadResponse bytes s = .refused .operandsChangedWhileBusy := if_pos h

/-- An idle block copies into `REQ` what fits; a longer operand stands beside it (R74 (b), C12 (b)). -/
theorem loadRequest_idle {s : State} (hb : s.busy = false) (hc : s.cfg.ok = true) (bytes : List Byte) :
    loadRequest bytes s =
      .next (if bytes.length ≤ s.cfg.txCap then writeReq bytes s else { s with reqOver := some bytes }) := by
  simp [loadRequest, hb, hc]

theorem loadResponse_idle {s : State} (hb : s.busy = false) (bytes : List Byte) :
    loadResponse bytes s =
      if bytes.length ≤ s.cfg.rxCap then .next (writeRsp bytes s) else .refused .responseExceedsBuffer := by
  simp [loadResponse, hb]

/-- A load of `REQ` is the same whether its bytes are a frame or not. -/
theorem step_hostRequest {s : State} {bytes : List Byte} {es : List Event} (h : s.script = .hostRequest bytes :: es) :
    step s = loadRequest bytes { s with script := es } := by
  simp only [step, h, fetchAndRun]
  split
  · exact exec_of_decode_request ‹_› _
  · rfl

theorem step_hostResponse {s : State} {bytes : List Byte} {es : List Event}
    (h : s.script = .hostResponse bytes :: es) : step s = loadResponse bytes { s with script := es } := by
  simp only [step, h, fetchAndRun, perform]

/-- A ready block takes a request frame: `REQ` has room for eight bytes under any configuration within R8. -/
theorem loadRequest_frame {s : State} (hs : s.ready) {bytes : List Byte} (h : bytes.length = 8) :
    loadRequest bytes s = .next (writeReq bytes s) := by
  obtain ⟨-, hb, hc⟩ := hs
  obtain ⟨-, -, -, -, -, -, -, hcap⟩ := Config.bounds_of_ok hc
  rw [loadRequest_idle hb hc, if_pos (h ▸ hcap)]

/-- Settles O22: both frame rows and every load the host presents are `loadRequest` or `loadResponse`. -/
theorem requestFramesLoadReq : Obligations.RequestFramesLoadReq := by
  refine ⟨fun s a h l v c d hs => ⟨loadRequest_frame hs rfl, loadRequest_frame hs rfl⟩,
    fun s bytes es hs hes => ?_, fun s bytes es hs hes => ?_, fun s bytes es a h l v c d hb => ?_⟩
  · obtain ⟨-, hb, hc⟩ := hs
    rw [step_hostRequest hes, loadRequest_idle (s := { s with script := es }) hb hc]
    refine ⟨fun hfits => ?_, fun hlong => ?_⟩
    · rw [if_pos hfits]
      rfl
    · rw [if_neg (Nat.not_le.mpr hlong)]
      exact ⟨_, rfl, rfl, rfl⟩
  · obtain ⟨-, hb, -⟩ := hs
    rw [step_hostResponse hes, loadResponse_idle (s := { s with script := es }) hb]
    rfl
  · refine ⟨loadRequest_busy hb _, loadRequest_busy hb _, ?_⟩
    rintro (hes | hes)
    · exact (step_hostRequest hes).trans (loadRequest_busy (s := { s with script := es }) hb bytes)
    · exact (step_hostResponse hes).trans (loadResponse_busy (s := { s with script := es }) hb bytes)

/-! ## What the line delivers -/

/-- Settles O23: a response frame's row delivers its bytes, and delivery looks at `DE` alone. -/
theorem responseFramesJoinTheReceivePath : Obligations.ResponseFramesJoinTheReceivePath := by
  intro s a h l v m c d
  exact ⟨rfl, rfl⟩

end Sys2Proof.Machine
end

section
/-! # The CRC engine

A round is linear over exclusive-or (`crcRound_xor`) and loses nothing (`crcRound_injective`), and rounds over zero bits
are a shift (`crcRounds_of_low_zero`); the laws of R108 and the table step of R109 follow from these three. -/

namespace Sys2Proof.Machine

/-! ## Rounds -/

@[simp] theorem crcRounds_zero (acc : Word) : crcRounds 0 acc = acc := rfl

theorem crcRounds_succ (n : Nat) (acc : Word) : crcRounds (n + 1) acc = crcRounds n (crcRound acc) := rfl

/-- `n` rounds are the round iterated. -/
theorem crcRounds_eq_iterate (n : Nat) : crcRounds n = crcRound^[n] := by
  induction n with
  | zero => rfl
  | succ n ih => funext acc; rw [crcRounds_succ, ih, Function.iterate_succ_apply]

/-- Only a round that finds the low bit set combines the polynomial (R103). -/
theorem crcRound_of_bit_zero {acc : Word} (h : acc.getLsbD 0 = false) : crcRound acc = acc >>> 1 := by
  rw [crcRound, h, if_neg Bool.false_ne_true]

/-- Rounds that meet zero bits only are a shift. -/
theorem crcRounds_of_low_zero {n : Nat} {acc : Word} (h : ∀ i < n, acc.getLsbD i = false) :
    crcRounds n acc = acc >>> n := by
  induction n generalizing acc with
  | zero => simp
  | succ n ih =>
    have hlow : ∀ i < n, (acc >>> 1).getLsbD i = false := fun i hi => by
      rw [BitVec.getLsbD_ushiftRight]
      exact h (1 + i) (by omega)
    rw [crcRounds_succ, crcRound_of_bit_zero (h 0 n.succ_pos), ih hlow, ← BitVec.shiftRight_add, Nat.add_comm]

/-- The polynomial has bit 15 set, which the shift has cleared: the result tells whether it was combined, and so the bit
that was shifted out. -/
theorem crcRound_bit_last (acc : Word) : (crcRound acc).getLsbD 15 = acc.getLsbD 0 := by
  unfold crcRound
  split <;> simp_all

theorem crcRound_eq_zero {acc : Word} (h : crcRound acc = 0#16) : acc = 0#16 := by
  have hlow : acc.getLsbD 0 = false := by rw [← crcRound_bit_last, h]; rfl
  rw [crcRound_of_bit_zero hlow] at h
  ext i hi
  cases i with
  | zero => simpa using hlow
  | succ i =>
    have hbit := congrArg (BitVec.getLsbD · i) h
    simpa [Nat.add_comm, BitVec.getLsbD_eq_getElem hi] using hbit

/-- A linear map that only zero is sent to zero by tells its arguments apart. -/
theorem crcRound_injective : Function.Injective crcRound := fun a b h => by
  have hxor : crcRound (a ^^^ b) = 0#16 := by rw [crcRound_xor, h, BitVec.xor_self]
  exact BitVec.xor_eq_zero_iff.mp (crcRound_eq_zero hxor)

theorem crcRounds_injective (n : Nat) : Function.Injective (crcRounds n) :=
  crcRounds_eq_iterate n ▸ crcRound_injective.iterate n

/-! ## The step of one byte -/

theorem crcByte_xor (a b : Word) (x y : Byte) : crcByte (a ^^^ b) (x ^^^ y) = crcByte a x ^^^ crcByte b y := by
  rw [crcByte, crcByte, crcByte, ← crcRounds_xor, BitVec.setWidth_xor]
  ac_rfl

theorem crcByte_left_injective (b : Byte) : Function.Injective (crcByte · b) := fun _ _ h =>
  (BitVec.xor_left_inj _).mp (crcRounds_injective 8 h)

theorem crcByte_right_injective (acc : Word) : Function.Injective (crcByte acc) := fun x y h => by
  have hwide : x.setWidth 16 = y.setWidth 16 := (BitVec.xor_right_inj acc).mp (crcRounds_injective 8 h)
  simpa using congrArg (BitVec.setWidth 8) hwide

/-- A word is its high byte in place beside its low byte. -/
theorem xor_high_low (w : Word) : (w >>> 8) <<< 8 ^^^ (lo8 w).setWidth 16 = w := by
  ext i hi
  by_cases hlow : i < 8
  · simp [lo8, hlow, BitVec.getLsbD_eq_getElem hi]
  · simp [lo8, hlow, BitVec.getLsbD_eq_getElem hi, Nat.add_sub_cancel' (Nat.le_of_not_lt hlow)]

/-- The accumulator's high byte is shifted down unchanged. -/
theorem crcByte_high (w : Word) : crcByte ((w >>> 8) <<< 8) 0#8 = w >>> 8 := by
  rw [crcByte, BitVec.setWidth_zero, BitVec.xor_zero, crcRounds_of_low_zero (by simp +contextual)]
  ext i hi
  simpa using BitVec.lt_of_getLsbD

/-- Only the exclusive-or of the accumulator's low byte and the operand counts: the index into the table (R109). -/
theorem crcByte_low (x b : Byte) : crcByte (x.setWidth 16) b = crcByte 0#16 (x ^^^ b) := by
  rw [crcByte, crcByte, BitVec.setWidth_xor, BitVec.zero_xor]

/-- The step by the table: it is linear, and the accumulator is its high byte beside its low byte (R109). -/
theorem crcByte_eq_table (acc : Word) (b : Byte) : crcByte acc b = (acc >>> 8) ^^^ crcByte 0#16 (lo8 acc ^^^ b) :=
  calc crcByte acc b
      = crcByte ((acc >>> 8) <<< 8 ^^^ (lo8 acc).setWidth 16) (0#8 ^^^ b) := by rw [xor_high_low, BitVec.zero_xor]
    _ = (acc >>> 8) ^^^ crcByte 0#16 (lo8 acc ^^^ b) := by rw [crcByte_xor, crcByte_high, crcByte_low]

/-- Settles O14: the entry of the table is the step from zero over the index byte. -/
theorem tableDrivenCrcAgrees : Obligations.TableDrivenCrcAgrees := crcByte_eq_table

/-- A byte equal to the accumulator's low byte cancels it (the rule behind R108 (b)). -/
theorem crcByte_lo8 (acc : Word) : crcByte acc (lo8 acc) = acc >>> 8 := by
  rw [crcByte_eq_table, BitVec.xor_self, show crcByte 0#16 0#8 = 0#16 by decide, BitVec.xor_zero]

theorem hi8_eq_lo8_shift (w : Word) : hi8 w = lo8 (w >>> 8) := by
  ext i hi
  simp [hi8, lo8]

/-! ## Sequences of bytes -/

theorem crcFrom_xor {xs ys : List Byte} (h : xs.length = ys.length) (a b : Word) :
    crcFrom (a ^^^ b) (List.zipWith (· ^^^ ·) xs ys) = crcFrom a xs ^^^ crcFrom b ys := by
  induction xs generalizing ys a b with
  | nil =>
    cases List.length_eq_zero_iff.mp h.symm
    rfl
  | cons x xs ih =>
    cases ys with
    | nil => cases h
    | cons y ys =>
      rw [List.zipWith_cons_cons, crcFrom_cons, crcByte_xor, ih (Nat.succ.inj h), crcFrom_cons, crcFrom_cons]

theorem crcFrom_injective (data : List Byte) : Function.Injective (crcFrom · data) := by
  induction data with
  | nil => exact Function.injective_id
  | cons b bs ih => exact ih.comp (crcByte_left_injective b)

/-- The CRC tells apart two sequences that differ in one byte, whatever stands before and after it. -/
theorem crc16_ne_of_byte_ne {x y : Byte} (h : x ≠ y) (pre post : List Byte) :
    crc16 (pre ++ x :: post) ≠ crc16 (pre ++ y :: post) := fun heq => by
  rw [crc16_append, crc16_append] at heq
  exact h (crcByte_right_injective _ (crcFrom_injective post heq))

/-- Settles O11: each of the two bytes cancels the accumulator's low byte, and no bit is left. -/
theorem crcResidueIsZero : Obligations.CrcResidueIsZero := by
  intro data
  rw [crc16_append, crcFrom_cons, crcByte_lo8, hi8_eq_lo8_shift, crcFrom_cons, crcByte_lo8, crcFrom_nil,
    ← BitVec.shiftRight_add, BitVec.ushiftRight_eq_zero le_rfl]

/-- Settles O12: the engine is linear in its initial value and its bytes, and 0xFFFF is the exclusive-or of three of
itself. -/
theorem crcIsLinear : Obligations.CrcIsLinear := by
  intro a b c hab hbc
  have hlen : (List.zipWith (· ^^^ ·) a b).length = c.length := by simp [hab, hbc]
  calc crc16 a ^^^ crc16 b ^^^ crc16 c
      = crcFrom (0xFFFF#16 ^^^ 0xFFFF#16 ^^^ 0xFFFF#16)
          (List.zipWith (· ^^^ ·) (List.zipWith (· ^^^ ·) a b) c) := by
        rw [crcFrom_xor hlen, crcFrom_xor hab, crc16, crc16, crc16]
    _ = crc16 (List.zipWith (· ^^^ ·) (List.zipWith (· ^^^ ·) a b) c) := rfl

/-- Settles O13: a byte with one bit changed is another byte. -/
theorem crcDetectsASingleBit : Obligations.CrcDetectsASingleBit := by
  intro data i k hi hk
  have hbyte : byteAt data i = data[i] := List.getD_eq_getElem _ _ hi
  have hne : data[i] ^^^ (1#8 <<< k) ≠ data[i] := fun h => by
    have hbit := congrArg (BitVec.getLsbD · k) (xor_left_eq_self_iff.mp h)
    simp [hk] at hbit
  obtain ⟨pre, post, hdata, -, hset⟩ := List.exists_of_set (a' := data[i] ^^^ (1#8 <<< k)) hi
  rw [hbyte, hset]
  exact fun h => crc16_ne_of_byte_ne hne pre post (h.trans (congrArg crc16 hdata))

/-- Settles O9: the byte goes on from the accumulator, and its eight rounds are the round iterated. -/
theorem crc16IsTheBitSerialLoop : Obligations.Crc16IsTheBitSerialLoop := by
  refine ⟨rfl, fun data b => ?_⟩
  rw [crc16_append, crcFrom_cons, crcFrom_nil, crcByte, crcRounds_eq_iterate]
  rfl

/-! ## The command -/

theorem lowerDe_of_released {s : State} (h : s.de = false) : lowerDe s = s := by
  rw [lowerDe, h, if_neg Bool.false_ne_true]

/-- The exit actions with the line already released (R222). -/
theorem finish_of_released {s : State} (h : s.de = false) (c : Status) :
    finish c s = { s with status := c, phase := .idle, busy := false, done := true, timers := {} } := by
  rw [finish, lowerDe_of_released h]

/-- A command that only computes ends in the step that accepts it, with the exit actions (R185, R222). -/
theorem runCommand_finish {s : State} {w : CommandWord} {code : State → Status} {compute : State → State}
    (hs : s.ready) (hde : (compute (accept w s)).de = false) :
    runCommand w (fun t => finish (code t) (compute t)) s =
      .next { compute (accept w s) with
                status := code (accept w s), phase := .idle, busy := false, done := true, timers := {},
                script := s.script } := by
  rw [runCommand_ready hs, drive_idle (finish_busy ..), finish_of_released hde]

/-- Settles O10: the accumulator is left with the CRC, and the line was released when the command was presented. -/
theorem crc16CommandResult : Obligations.Crc16CommandResult := by
  intro s st ch hs
  refine ⟨crc16 s.dataIn, ?_⟩
  rw [exec, execCrc16, runCommand_finish hs hs.de]
  rfl

end Sys2Proof.Machine
end

section
/-! # The direction line in every run

The invariant holds along every run, so the line is released outside an operation; and while the block drives the line no
move but a reset touches the receive path. -/

namespace Sys2Proof.Machine

variable {s t u : State} {p : LinePhase}

/-- Every state reached from one that meets the invariant meets it. -/
theorem inv_reaches (h : Reaches s t) (hs : s.Inv) : t.Inv := by
  induction h with
  | refl => exact hs
  | step _ ht ih => exact stepKeepsTheInvariant _ _ ih ht

/-- Settles O53: the invariant releases the line outside an operation. -/
theorem directionLineIsAlwaysReleased : Obligations.DirectionLineIsAlwaysReleased :=
  fun _ hs _ ht => (inv_reaches ht hs).lineReleased

/-! ## What a step of a sending phase can do -/

/-- No `RX` event is among these. -/
def NoneReceived (evs : List (WireEvent × Nat)) : Prop := ∀ (b : Byte) (n : Nat), (WireEvent.rx b, n) ∉ evs

theorem NoneReceived.append {a b : List (WireEvent × Nat)} (ha : NoneReceived a) (hb : NoneReceived b) :
    NoneReceived (a ++ b) := by
  intro x n hx
  exact (List.mem_append.mp hx).elim (ha x n) (hb x n)

/-- The registers that no transport operation writes: the request, the results of the other units, the attempt number, the
free values, the configuration, the latched timeout and the ports (R121, R140, R150). -/
def State.operands (s : State) : List Byte × Bool × Option (List Byte) × Byte × Word × Word × Nat × Nat × Config × Nat ×
    Nat × List Byte :=
  (s.req, s.reqWritten, s.reqOver, s.res8, s.res16, s.crc, s.att, s.draws, s.cfg, s.tmo, s.tmoIn, s.dataIn)

/-- `RSP` and whether it has been written. -/
def State.response (s : State) : List Byte × Bool := (s.rsp, s.rspWritten)

/-- `u` is `s` after what a sending phase `p` does before the next phase begins: at most a flush, an edge of `DE`, a byte
handed over, a timer started. -/
structure Prepares (p : LinePhase) (s u : State) : Prop where
  control : SameControl s u
  operands : u.operands = s.operands
  response : u.response = s.response
  rxq : p.drives = true → u.rxq = s.rxq
  trace : ∃ evs, u.trace = s.trace ++ evs ∧ NoneReceived evs

/-- How a step of the sending phase `p` leaves the operation: waiting, in another sending phase, by the error exit of a
budget, or by the release of the line (R121, R133). -/
inductive Sends (p : LinePhase) (s : State) : State → Prop
  | stay : Sends p s s
  | enter {q u} (hq : q.sending = true) (h : Prepares p s u) : Sends p s (enter q u)
  | abort (hp : p.drives = true) : Sends p s (abortTransmit s)
  | release (hp : p = .txRelease) : Sends p s (releasePhase s)

/-- An action that writes nothing to the trace. -/
theorem prepares_silent (hc : SameControl s u) (ho : u.operands = s.operands) (hr : u.response = s.response)
    (hq : u.rxq = s.rxq) (ht : u.trace = s.trace) : Prepares p s u :=
  ⟨hc, ho, hr, fun _ => hq, [], by rw [ht, List.append_nil], fun _ _ => List.not_mem_nil⟩

theorem sends_lineStep (hp : p.sending = true) (s : State) : Sends p s (lineStep p s) := by
  cases p with
  | txFlush =>
    exact .enter (u := uartFlush s) rfl
      ⟨⟨rfl, rfl, rfl, rfl⟩, rfl, rfl, nofun, [_], rfl, by simp [NoneReceived]⟩
  | txAssert =>
    exact .enter (u := raiseDe { s with timers := _ }) rfl
      ⟨⟨rfl, rfl, rfl, rfl⟩, rfl, rfl, fun _ => rfl, [_], rfl, by simp [NoneReceived]⟩
  | txSettle =>
    simp only [lineStep]
    split
    · exact .enter (u := { s with timers := _ }) rfl (prepares_silent ⟨rfl, rfl, rfl, rfl⟩ rfl rfl rfl rfl)
    · exact .stay
  | txWrite i =>
    simp only [lineStep, writePhase]
    split_ifs
    · exact .enter (u := uartWrite _ s) rfl (prepares_silent ⟨rfl, rfl, rfl, rfl⟩ rfl rfl rfl rfl)
    · exact .abort rfl
    · exact .stay
    · exact .enter (u := { s with timers := _ }) rfl (prepares_silent ⟨rfl, rfl, rfl, rfl⟩ rfl rfl rfl rfl)
  | txWaitTc =>
    simp only [lineStep, waitTcPhase]
    split_ifs
    · exact .enter (u := { s with timers := _ }) rfl (prepares_silent ⟨rfl, rfl, rfl, rfl⟩ rfl rfl rfl rfl)
    · exact .abort rfl
    · exact .stay
  | txHold =>
    simp only [lineStep]
    split
    · exact .enter rfl (prepares_silent ⟨rfl, rfl, rfl, rfl⟩ rfl rfl rfl rfl)
    · exact .stay
  | txRelease => exact .release rfl
  | rxWaitFirst | rxCollect => cases hp

/-- How a step of a receiving phase leaves the operation: waiting, with the first-byte timer started, with the byte that
has waited longest taken, or ended (R140 to R143). -/
inductive Takes (s : State) : State → Prop
  | stay : Takes s s
  | start {timers} : Takes s (writeRsp [] { s with timers := timers })
  | take {b rest} (hq : s.rxq = b :: rest) : Takes s (takeByte b rest s)
  | ended {c} (hq : s.rxq = []) : Takes s (endTransport c s)

theorem takes_lineStep (hp : p.sending = false) (s : State) : Takes s (lineStep p s) := by
  cases p with
  | rxWaitFirst =>
    simp only [lineStep, waitFirstPhase]
    split
    · exact .start
    · split
      · exact .take ‹_›
      · split
        · exact .ended ‹_›
        · exact .stay
  | rxCollect =>
    simp only [lineStep, collectPhase]
    split
    · exact .take ‹_›
    · split
      · exact .ended ‹_›
      · exact .stay
  | _ => cases hp

/-! ## The receive path while the line is driven -/

@[simp] theorem attemptFails_rxq (s : State) : (attemptFails s).rxq = s.rxq := by
  unfold attemptFails; split <;> rfl

@[simp] theorem concludeAttempt_rxq (c : Status) (s : State) : (concludeAttempt c s).rxq = s.rxq := by
  unfold concludeAttempt
  split
  · simp only
    split
    · rfl
    · exact attemptFails_rxq _
  · exact attemptFails_rxq s

@[simp] theorem endTransport_rxq (c : Status) (s : State) : (endTransport c s).rxq = s.rxq := by
  obtain ⟨_, _, h⟩ | ⟨_, h⟩ := endTransport_cases c s <;> rw [h]
  · exact concludeAttempt_rxq c s
  · exact finish_rxq c s

@[simp] theorem failTransmit_rxq (s : State) : (failTransmit s).rxq = s.rxq := by
  unfold failTransmit
  split <;> exact endTransport_rxq _ _

@[simp] theorem abortTransmit_rxq (s : State) : (abortTransmit s).rxq = s.rxq := by
  simp [abortTransmit]

theorem releasePhase_rxq (s : State) : (releasePhase s).rxq = s.rxq := by
  unfold releasePhase
  split <;> simp [startReceive]

theorem Sends.rxq (h : Sends p s t) (hp : p.drives = true) : t.rxq = s.rxq := by
  cases h with
  | stay => rfl
  | enter _ hu => exact hu.rxq hp
  | abort => exact abortTransmit_rxq s
  | release => exact releasePhase_rxq s

theorem LinePhase.sending_of_drives (hp : p.drives = true) : p.sending = true := by
  cases p with
  | txFlush | txAssert | rxWaitFirst | rxCollect => cases hp
  | txSettle | txWrite | txWaitTc | txHold | txRelease => rfl

/-- In a transport phase the sequencer takes a step of it, alone or inside an attempt. -/
theorem sequencerStep_line (hp : linePhase s.phase = some p) : sequencerStep s = lineStep p s := by
  unfold sequencerStep
  cases hs : s.phase <;> rw [hs] at hp <;> cases hp <;> rfl

theorem sequencerStep_rxq_of_drives (hd : s.phase.drives = true) : (sequencerStep s).rxq = s.rxq := by
  obtain ⟨p, hp, hdrives⟩ : ∃ p, linePhase s.phase = some p ∧ p.drives = true := by
    simpa [Phase.drives, Option.any_eq_true] using hd
  rw [sequencerStep_line hp]
  exact (sends_lineStep (LinePhase.sending_of_drives hdrives) s).rxq hdrives

/-- No move but a reset changes the receive path while the block drives the line: the host's loads are refused, a passive
move appends nothing while `DE = 1`, and no phase that drives the line reads the path (R135, R264). -/
theorem perform_rxq_of_drives {e : Event} (hb : s.busy = true) (hde : s.de = true) (hd : s.phase.drives = true)
    (he : ∀ u, e ≠ .reset u) (ht : perform e s = .next t) : t.rxq = s.rxq := by
  cases hline : e.lineSide with
  | true =>
    obtain ⟨-, n, rfl⟩ | ⟨-, -, rfl⟩ | hpass := perform_cases hline ht
    · exact sequencerStep_rxq_of_drives (s := { s with now := s.now + n }) hd
    · exact abortTransmit_rxq s
    · rw [hpass.rxq, if_pos hde]
  | false =>
    cases e with
    | hostRequest bytes => cases (loadRequest_busy hb bytes).symm.trans ht
    | hostResponse bytes => cases (loadResponse_busy hb bytes).symm.trans ht
    | reset u => exact absurd rfl (he u)
    | _ => cases hline

/-- Settles O24: the block that drives the line is busy, so a step is one move. -/
theorem receiverIsOffWhileDriving : Obligations.ReceiverIsOffWhileDriving := by
  intro s t hs hde hstep hreset
  have hd : s.phase.drives = true := hs.de_eq.symm.trans hde
  have hb : s.busy = true := hs.busy_iff.mpr fun hi => by rw [hi] at hd; cases hd
  unfold step at hstep
  split at hstep
  case h_1 => cases hstep; rfl
  case h_2 e es hscript =>
    obtain ht | ⟨-, -, -, -, hidle, -⟩ := fetchAndRun_cases hstep
    · exact perform_rxq_of_drives (s := { s with script := es }) hb hde hd
        (fun u he => hreset u es (he ▸ hscript)) ht
    · exact absurd (hb.symm.trans hidle) (by decide)

end Sys2Proof.Machine
end

section
/-! # How a transport command is refused and abandoned, and what it leaves unchanged

The error exit of `TRANSMIT` and `EXCHANGE` written out: at once for an operand of a refused length (R122), with the line
released and the transmitter emptied for a budget that has run out (R133). -/

namespace Sys2Proof.Machine

variable {s t : State} {p : LinePhase}

/-! ## The exits of a transport command -/

/-- Outside an attempt only the command `EXCHANGE` is exchanging (R150). -/
theorem exchanging_alone (hs : ∀ q, s.phase ≠ .attempting q) : exchanging s = (opField s.cmd == 0x3#4) := by
  unfold exchanging
  split
  · exact absurd ‹_› (hs _)
  · rfl

theorem failTransmit_transmit (hs : ∀ q, s.phase ≠ .attempting q) (hx : exchanging s = false) :
    failTransmit s = finish .txError s := by
  rw [failTransmit, if_neg (by simp [hx]), endTransport_alone hs]

theorem failTransmit_exchange (hs : ∀ q, s.phase ≠ .attempting q) (hx : exchanging s = true) :
    failTransmit s = finish .txError (writeRsp [] s) := by
  rw [failTransmit, if_pos hx, endTransport_alone (s := writeRsp [] s) hs]

/-- The error exit of a `TRANSMIT` that drives the line (R133, R222). -/
theorem abortTransmit_transmit (hs : s.phase = .transport p) (hx : exchanging s = false) (hde : s.de = true) :
    abortTransmit s =
      { s with de := false, txq := [], txsr := none, trace := s.trace ++ [(.deDown, s.now)], status := .txError,
               phase := .idle, busy := false, done := true, timers := {} } := by
  rw [abortTransmit, failTransmit_transmit (by simp [hs]) (by simpa [exchanging] using hx), lowerDe, if_pos hde,
    finish_of_released rfl]
  rfl

/-- The error exit of an `EXCHANGE` that drives the line: `RSP_LEN <- 0` beside it (R151, R212). -/
theorem abortTransmit_exchange (hs : s.phase = .transport p) (hx : exchanging s = true) (hde : s.de = true) :
    abortTransmit s =
      { s with de := false, txq := [], txsr := none, trace := s.trace ++ [(.deDown, s.now)], status := .txError,
               phase := .idle, busy := false, done := true, timers := {}, rsp := [], rspWritten := true } := by
  rw [abortTransmit, failTransmit_exchange (by simp [hs]) (by simpa [exchanging] using hx), lowerDe, if_pos hde,
    finish_of_released rfl]
  rfl

/-- A refused length ends the operation before anything else (R122). -/
theorem startTransmit_refused
    (h : (requestOperand s).length = 0 ∨ s.cfg.txCap < (requestOperand s).length) :
    startTransmit s = failTransmit s := if_pos h

/-- Settles O25: the command fails in the step that accepts it; the codec's bodies have six bytes, and `TX_CAP` has room
for their frames. -/
theorem transmitRefusesBadLength : Obligations.TransmitRefusesBadLength := by
  refine ⟨fun s st ch hs hlen => ?_, fun c st ch hc => ?_⟩
  · have hphase : ∀ q, (accept (commandWord 0x1#4 st ch) s).phase ≠ .attempting q := by simp [hs.phase]
    have hfail : startTransmit (accept (commandWord 0x1#4 st ch) s) =
        finish .txError (accept (commandWord 0x1#4 st ch) s) := by
      rw [startTransmit_refused (s := accept _ s) hlen, failTransmit_transmit hphase]
      simp [exchanging_alone hphase]
    rw [exec, execTransmit, runCommand_ended hs _ _ (by rw [hfail]; simp), hfail, finish_of_released (s := accept _ s) hs.de]
    rfl
  · obtain ⟨-, -, -, -, -, -, -, hcap⟩ := Config.bounds_of_ok hc
    exact ⟨rfl, rfl, hcap⟩

/-- An `EXCHANGE` of a refused operand ends `TxError` at once, with `RSP_LEN = 0` (R151, R212). -/
theorem exchange_refused (hs : s.ready) (st : Bool) (ch : Word)
    (hlen : (requestOperand s).length = 0 ∨ s.cfg.txCap < (requestOperand s).length) :
    exec (.exchange st ch) s =
      .next { s.ended (commandWord 0x3#4 st ch) .txError with rsp := [], rspWritten := true } := by
  have hphase : ∀ q, (accept (commandWord 0x3#4 st ch) s).phase ≠ .attempting q := by simp [hs.phase]
  have hfail : startTransmit (accept (commandWord 0x3#4 st ch) s) =
      finish .txError (writeRsp [] (accept (commandWord 0x3#4 st ch) s)) := by
    rw [startTransmit_refused (s := accept _ s) hlen, failTransmit_exchange hphase]
    simp [exchanging_alone hphase]
  rw [exec, execExchange, runCommand_ended hs _ _ (by rw [hfail]; simp), hfail,
    finish_of_released (s := writeRsp [] (accept _ s)) hs.de]
  rfl

/-! ## The two waits of a transmission -/

theorem uartTc_eq_false (h : s.txq ≠ [] ∨ s.txsr ≠ none) : uartTc s = false := by
  rw [← Bool.not_eq_true]
  simpa [uartTc, imp_iff_not_or] using h

theorem lineStep_txWrite_expired {i : Nat} (hi : i < s.req.length) (hroom : s.txRoom = false)
    (hd : expired s.timers.txBudget s.now = true) : lineStep (.txWrite i) s = abortTransmit s := by
  simp [lineStep, writePhase, hi, hroom, hd]

theorem lineStep_txWaitTc_expired (htc : uartTc s = false) (hd : expired s.timers.txBudget s.now = true) :
    lineStep .txWaitTc s = abortTransmit s := by
  simp [lineStep, waitTcPhase, htc, hd]

/-- Settles O30: both waits take the error exit of a `TRANSMIT`. -/
theorem budgetExpiryReleasesTheLine : Obligations.BudgetExpiryReleasesTheLine := by
  intro s d hs hop hd hle hwait
  have hexp : expired s.timers.txBudget s.now = true := expired_iff.mpr ⟨d, hd, hle⟩
  have abort : ∀ {q}, s.phase = .transport q → q.drives = true → perform .sequencer s = .next (abortTransmit s) →
      perform .sequencer s = .next _ := fun {q} hq hdrives h => by
    have hde : s.de = true := by rw [hs.de_eq, hq]; exact hdrives
    have hx : exchanging s = false := by simp [exchanging_alone (s := s) (by simp [hq]), hop]
    exact h.trans (congrArg _ (abortTransmit_transmit hq hx hde))
  have moves : ∀ {q}, s.phase = .transport q → lineStep q s = abortTransmit s →
      perform .sequencer s = .next (abortTransmit s) := fun {q} hq h => by
    rw [perform, sequencerStep_line (p := q) (by rw [hq]; rfl), h]
  obtain ⟨i, hp, hi, hroom⟩ | ⟨hp, hpend⟩ := hwait
  · exact abort hp rfl (moves hp (lineStep_txWrite_expired hi hroom hexp))
  · exact abort hp rfl (moves hp (lineStep_txWaitTc_expired (uartTc_eq_false hpend) hexp))

/-- An operation that has ended is in no transport phase. -/
theorem linePhase_endTransport (c : Status) (s : State) : linePhase (endTransport c s).phase = none := by
  obtain ⟨_, _, h⟩ | ⟨_, h⟩ := endTransport_cases c s <;> rw [h]
  · obtain ⟨h, -⟩ | ⟨h, -⟩ | ⟨h, -⟩ := concludeAttempt_phase c s <;> rw [h] <;> rfl
  · rw [finish_phase]; rfl

theorem linePhase_abortTransmit (s : State) : linePhase (abortTransmit s).phase = none := by
  unfold abortTransmit failTransmit
  split <;> exact linePhase_endTransport _ _

/-- With a byte in the transmitter the sequencer waits on or takes the error exit (R128, R132). -/
theorem linePhase_sequencerStep_pending (hp : linePhase s.phase = some .txWaitTc) (h : s.txq ≠ [] ∨ s.txsr ≠ none) :
    linePhase (sequencerStep s).phase = some .txWaitTc ∨ linePhase (sequencerStep s).phase = none := by
  rw [sequencerStep_line hp]
  rw [lineStep, waitTcPhase, uartTc_eq_false h, if_neg Bool.false_ne_true]
  split
  · exact .inr (linePhase_abortTransmit s)
  · exact .inl hp

theorem loadRequest_phase {bytes : List Byte} (h : loadRequest bytes s = .next t) : t.phase = s.phase := by
  unfold loadRequest at h
  split_ifs at h <;> cases h <;> rfl

theorem loadResponse_phase {bytes : List Byte} (h : loadResponse bytes s = .next t) : t.phase = s.phase := by
  unfold loadResponse at h
  split_ifs at h
  cases h
  rfl

/-- Settles O31: the sequencer waits on or takes the error exit, and no other move but a reset changes the phase. -/
theorem holdOnlyAfterTheLastBit : Obligations.HoldOnlyAfterTheLastBit := by
  intro e s t hp hpend ht
  have hphase : linePhase t.phase = some .txWaitTc ∨ linePhase t.phase = none := by
    cases he : e.lineSide with
    | true =>
      obtain ⟨-, n, rfl⟩ | ⟨-, -, rfl⟩ | hpass := perform_cases he ht
      · exact linePhase_sequencerStep_pending (s := { s with now := s.now + n }) hp hpend
      · exact .inr (linePhase_abortTransmit s)
      · exact .inl (hpass.phase ▸ hp)
    | false =>
      cases e with
      | hostRequest bytes => exact .inl (loadRequest_phase ht ▸ hp)
      | hostResponse bytes => exact .inl (loadResponse_phase ht ▸ hp)
      | reset u => cases ht; exact .inr rfl
      | _ => cases he
  obtain h | h := hphase <;> simp [h]

/-! ## What the transport commands leave unchanged -/

theorem endTransport_operands (hs : ∀ q, s.phase ≠ .attempting q) (c : Status) :
    (endTransport c s).operands = s.operands := by
  rw [endTransport_alone hs]
  simp [State.operands]

theorem endTransport_response (hs : ∀ q, s.phase ≠ .attempting q) (c : Status) :
    (endTransport c s).response = s.response := by
  rw [endTransport_alone hs]
  simp [State.response]

theorem lowerDe_operands (s : State) : (lowerDe s).operands = s.operands := by simp [State.operands]

theorem lowerDe_response (s : State) : (lowerDe s).response = s.response := by simp [State.response]

theorem failTransmit_operands (hs : ∀ q, s.phase ≠ .attempting q) : (failTransmit s).operands = s.operands := by
  unfold failTransmit
  split
  · exact endTransport_operands (s := writeRsp [] s) hs _
  · exact endTransport_operands hs _

theorem abortTransmit_operands (hs : s.phase = .transport p) : (abortTransmit s).operands = s.operands := by
  rw [abortTransmit, failTransmit_operands (by simp [hs]), lowerDe_operands]
  rfl

theorem abortTransmit_response (hs : s.phase = .transport p) (hx : exchanging s = false) :
    (abortTransmit s).response = s.response := by
  rw [abortTransmit, failTransmit_transmit (by simp [hs]) (by simpa [exchanging] using hx)]
  simp [State.response]

theorem startTransmit_operands (hs : ∀ q, s.phase ≠ .attempting q) : (startTransmit s).operands = s.operands := by
  unfold startTransmit
  split
  · exact failTransmit_operands hs
  · rfl

theorem startTransmit_response (hs : ∀ q, s.phase ≠ .attempting q) (hx : exchanging s = false) :
    (startTransmit s).response = s.response := by
  unfold startTransmit
  split
  · rw [failTransmit_transmit hs hx]
    simp [State.response]
  · rfl

theorem takeByte_operands (hs : s.phase = .transport p) (b : Byte) (rest : List Byte) :
    (takeByte b rest s).operands = s.operands := by
  unfold takeByte
  simp only
  split
  · exact endTransport_operands (s := storeReceived b rest s) (by simp [hs]) _
  · rfl

theorem Sends.operands {q : LinePhase} (h : Sends q s t) (hs : s.phase = .transport p) :
    t.operands = s.operands := by
  cases h with
  | stay => rfl
  | enter _ hu => exact hu.operands
  | abort => exact abortTransmit_operands hs
  | release =>
    unfold releasePhase
    split
    · exact lowerDe_operands s
    · rw [endTransport_operands (by simp [hs]), lowerDe_operands]

/-- A `TRANSMIT` leaves `RSP` alone (R121). -/
theorem Sends.response {q : LinePhase} (h : Sends q s t) (hs : s.phase = .transport p) (hx : exchanging s = false) :
    t.response = s.response := by
  cases h with
  | stay => rfl
  | enter _ hu => exact hu.response
  | abort => exact abortTransmit_response hs hx
  | release =>
    rw [releasePhase, if_neg (by simp [hx]), endTransport_response (by simp [hs]), lowerDe_response]

theorem Takes.operands (h : Takes s t) (hs : s.phase = .transport p) : t.operands = s.operands := by
  cases h with
  | stay | start => rfl
  | take => exact takeByte_operands hs _ _
  | ended => exact endTransport_operands (by simp [hs]) _

theorem sequencerStep_operands (hs : s.phase = .transport p) : (sequencerStep s).operands = s.operands := by
  rw [sequencerStep_line (p := p) (by rw [hs]; rfl)]
  cases hp : p.sending with
  | true => exact (sends_lineStep hp s).operands hs
  | false => exact (takes_lineStep hp s).operands hs

theorem sequencerStep_response (hs : s.phase = .transport p) (hp : p.sending = true) (hx : exchanging s = false) :
    (sequencerStep s).response = s.response := by
  rw [sequencerStep_line (p := p) (by rw [hs]; rfl)]
  exact (sends_lineStep hp s).response hs hx

/-- A move of the line side keeps what the sequencer's step and the error exit keep, when that is no matter of the
transmitter, the receive path, the timers, the clock or the trace, which are all the other moves touch. -/
theorem perform_keeps {α : Type} {f : State → α} {e : Event} (he : e.lineSide = true) (ht : perform e s = .next t)
    (hpassive : ∀ room txq txsr rxq timers now trace,
      f { s with txRoom := room, txq := txq, txsr := txsr, rxq := rxq, timers := timers, now := now, trace := trace } =
        f s)
    (hseq : ∀ n, f (sequencerStep { s with now := s.now + n }) = f s)
    (habort : linePhase s.phase = some .txWaitTc → f (abortTransmit s) = f s) : f t = f s := by
  cases e with
  | hostRequest | hostResponse | reset => cases he
  | hostCommand => cases ht; rfl
  | uartRoom r => cases ht; exact hpassive r s.txq s.txsr s.rxq s.timers s.now s.trace
  | line bytes =>
    cases ht
    unfold deliver
    split
    · rfl
    · exact hpassive s.txRoom s.txq s.txsr _ s.timers s.now s.trace
  | uartLoad =>
    cases ht
    unfold uartLoad
    split
    · exact hpassive s.txRoom _ _ s.rxq s.timers s.now s.trace
    · rfl
  | uartShift =>
    cases ht
    unfold uartShift
    split
    · exact hpassive s.txRoom s.txq _ s.rxq _ s.now _
    · rfl
  | clock n =>
    cases ht
    obtain ⟨-, h⟩ | ⟨-, h⟩ := advanceClock_cases n s <;> rw [h]
    · exact hpassive s.txRoom s.txq s.txsr s.rxq s.timers _ s.trace
    · exact hseq n
  | sequencer => cases ht; exact hseq 0
  | timerFirst =>
    cases ht
    obtain ⟨hc, h⟩ | ⟨-, h⟩ := timerFirstStep_cases s <;> rw [h]
    · exact habort ((budgetCoincides_iff s).mp hc).1
    · exact hseq 0

theorem perform_operands {e : Event} (he : e.lineSide = true) (hs : s.phase = .transport p)
    (ht : perform e s = .next t) : t.operands = s.operands :=
  perform_keeps (f := State.operands) he ht (fun _ _ _ _ _ _ _ => rfl)
    (fun n => sequencerStep_operands (s := { s with now := s.now + n }) hs) (fun _ => abortTransmit_operands hs)

theorem perform_response {e : Event} (he : e.lineSide = true) (hs : s.phase = .transport p) (hp : p.sending = true)
    (hx : exchanging s = false) (ht : perform e s = .next t) : t.response = s.response :=
  perform_keeps (f := State.response) he ht (fun _ _ _ _ _ _ _ => rfl)
    (fun n => sequencerStep_response (s := { s with now := s.now + n }) hs hp hx)
    (fun _ => abortTransmit_response hs hx)

/-- A running command of the transport is in a transport phase outside any attempt (R33). -/
theorem transport_of_commandPhase {i : Instr} {st : Bool} {ch : Word} {q : Phase}
    (hi : i = .transmit st ch ∨ i = .receive st ch ∨ i = .exchange st ch) (h : CommandPhase i q) :
    ∃ p, q = .transport p := by
  cases q with
  | transport p => exact ⟨p, rfl⟩
  | _ => obtain rfl | rfl | rfl := hi <;> exact h.elim

/-- How the three commands begin: with their operands as accepted, and `TRANSMIT` with `RSP` as it was. -/
theorem transport_begins {i : Instr} {st : Bool} {ch : Word} (hs : s.ready)
    (hi : i = .transmit st ch ∨ i = .receive st ch ∨ i = .exchange st ch) :
    ∃ w body, encode i = .command w ∧ exec i s = runCommand w body s ∧ (∀ v, Begins i v (body v)) ∧
      (body (accept w s)).operands = (accept w s).operands ∧
      (i = .transmit st ch → (body (accept w s)).response = s.response) := by
  have alone : ∀ w q, (accept w s).phase ≠ .attempting q := by simp [hs.phase]
  obtain rfl | rfl | rfl := hi
  · refine ⟨_, startTransmit, rfl, rfl, fun _ => .transmit, startTransmit_operands (alone _), fun _ => ?_⟩
    exact startTransmit_response (alone _) (by simp [exchanging_alone (alone _)])
  · exact ⟨_, startReceive, rfl, rfl, fun _ => .receive, rfl, fun h => by cases h⟩
  · exact ⟨_, startTransmit, rfl, rfl, fun _ => .exchange, startTransmit_operands (alone _), fun h => by cases h⟩

/-- Settles O28: the operands are kept by every move of a transport command, and `RSP` by every move of a
`TRANSMIT`. -/
theorem transportFrame : Obligations.TransportFrame := by
  intro s t i st ch hs hes hi ht
  obtain ⟨w, body, hw, hrun, hbegins, hoperands, hresponse⟩ := transport_begins hs hi
  rw [hrun] at ht
  obtain ⟨-, -, -, hcourse, hops, hresp⟩ := runCommand_course hw hbegins hs hes ht
    (fun _ v => v.operands = (accept w s).operands ∧ (i = .transmit st ch → v.response = s.response))
    (fun _ _ _ h => h) ⟨hoperands, hresponse⟩
    (fun _ e v v' he _ hr hp hq hv' => by
      obtain ⟨p, hvp⟩ := transport_of_commandPhase hi hp
      refine ⟨(perform_operands he hvp hv').trans hq.1, fun htransmit => ?_⟩
      subst htransmit
      rw [hvp] at hp
      have hx := not_exchanging (Fetched.command.inj hr.1) hvp (by decide)
      exact (perform_response he hvp hp hx hv').trans (hq.2 rfl))
  simp only [State.operands, Prod.mk.injEq] at hops
  obtain ⟨hreq, hwritten, hover, hres8, hres16, hcrc, hatt, hdraws, hcfg, htmo, htmoIn, hdata⟩ := hops
  exact ⟨hreq, hwritten, hover, hres8, hres16, hcrc, hatt, hdraws, hcfg, htmo, htmoIn, hdata, hcourse.cmd,
    fun htransmit => Prod.mk.inj (hresp htransmit)⟩

end Sys2Proof.Machine
end

section
/-! # The ends of an exchange

An `EXCHANGE` that has not begun to receive has taken no byte, and the error exit is taken only there; once it receives it
can end only as a receive does (`ExchangeCourse`). -/

namespace Sys2Proof.Machine

variable {s t v v' : State} {p : LinePhase}

/-- The exchange begun in `s` has ended in its transmit part: nothing received, and no wait after the line was released, or
no event at all (R151). -/
def ExchangeFailed (s v : State) : Prop :=
  v.status = .txError ∧ v.rsp = [] ∧
  ∃ added, v.trace = s.trace ++ added ∧ NoneReceived added ∧
    (added.getLast? = some (.deDown, v.now) ∨ (added = [] ∧ v.now = s.now))

/-- The events of the exchange begun in `s`, up to `v`, show no byte received. -/
def Unanswered (s v : State) : Prop := ∃ added, v.trace = s.trace ++ added ∧ NoneReceived added

/-- The exchange begun in `s` is under way, without a byte received as long as it sends, or has ended as a receive does or
with its transmit part. -/
def ExchangeCourse (s v : State) : Prop :=
  (∃ p, v.phase = .transport p ∧ (p.sending = true → Unanswered s v)) ∨
  (v.phase = .idle ∧ (v.ReceiveEnded ∨ ExchangeFailed s v))

theorem Unanswered.append {evs : List (WireEvent × Nat)} (h : Unanswered s v) (ht : v'.trace = v.trace ++ evs)
    (hn : NoneReceived evs) : Unanswered s v' := by
  obtain ⟨added, htr, hnone⟩ := h
  exact ⟨added ++ evs, by rw [ht, htr, List.append_assoc], hnone.append hn⟩

/-- A passive move records no byte received. -/
theorem Unanswered.passive {e : Event} (h : Unanswered s v) (hm : Passive e v v') : Unanswered s v' := by
  have same : v'.trace = v.trace → Unanswered s v' := fun ht =>
    h.append (evs := []) (by rw [ht, List.append_nil]) fun _ _ => List.not_mem_nil
  obtain rfl | rfl | ⟨ht, -⟩ := hm.wire
  · exact same (uartLoad_trace v)
  · cases hb : v.txsr with
    | none => exact same (by rw [uartShift_of_empty hb])
    | some b =>
      rw [uartShift_of_byte hb]
      exact h.append (v' := record (.tx b) { v with txsr := none, timers := _ }) rfl (by simp [NoneReceived])
  · exact same ht

/-- The error exit while the line is driven: `DE_DOWN` is the last event and no time passes after it (R133, R151). -/
theorem exchangeFailed_abort (h : Unanswered s v) (hp : v.phase = .transport p) (hx : exchanging v = true)
    (hde : v.de = true) : ExchangeCourse s (abortTransmit v) := by
  obtain ⟨added, htr, hnone⟩ := h
  rw [abortTransmit_exchange hp hx hde]
  refine .inr ⟨rfl, .inr ⟨rfl, rfl, added ++ [(.deDown, v.now)], ?_, hnone.append (by simp [NoneReceived]), ?_⟩⟩
  · simp [htr]
  · simp

/-- A step of the transmit part goes on to send, to receive, or to the error exit. -/
theorem exchangeCourse_sends (ht : Sends p v v') (h : Unanswered s v) (hv : v.Inv) (hp : v.phase = .transport p)
    (hx : exchanging v = true) : ExchangeCourse s v' := by
  cases ht with
  | stay => exact .inl ⟨p, hp, fun _ => h⟩
  | @enter q u hq hu =>
    obtain ⟨evs, htr, hnone⟩ := hu.trace
    refine .inl ⟨q, by simp [hu.control.phase, hp], fun _ => ?_⟩
    exact h.append (v' := enter q u) htr hnone
  | abort hd => exact exchangeFailed_abort h hp hx (hv.de_eq.trans (by rw [hp]; exact hd))
  | release =>
    rw [releasePhase, if_pos hx]
    exact .inl ⟨.rxWaitFirst, by simp [startReceive, hp], fun hs => by cases hs⟩

/-- A receive goes on as one, or ends. -/
theorem Takes.phase (ht : Takes v v') (hp : v.phase = .transport p) (hr : p.sending = false) :
    v'.phase = .idle ∨ ∃ q, v'.phase = .transport q ∧ q.sending = false := by
  cases ht with
  | stay | start => exact .inr ⟨p, hp, hr⟩
  | ended =>
    rw [endTransport_alone (by simp [hp])]
    exact .inl (finish_phase _ _)
  | take =>
    unfold takeByte
    simp only
    split
    · rw [endTransport_alone (by simp [hp])]
      exact .inl (finish_phase _ _)
    · exact .inr ⟨.rxCollect, by simp [hp], rfl⟩

theorem receiving_phase {e : Event} (he : e.lineSide = true) (hp : v.phase = .transport p) (hr : p.sending = false)
    (ht : perform e v = .next v') : v'.phase = .idle ∨ ∃ q, v'.phase = .transport q ∧ q.sending = false := by
  have hl : linePhase v.phase = some p := by rw [hp]; rfl
  obtain ⟨-, n, rfl⟩ | ⟨-, hw, -⟩ | hm := perform_cases he ht
  · rw [sequencerStep_line (s := { v with now := v.now + n }) hl]
    exact (takes_lineStep hr _).phase hp hr
  · rw [hl] at hw
    cases hw
    cases hr
  · exact .inr ⟨p, hm.phase.trans hp, hr⟩

theorem exchangeCourse_perform {e : Event} (he : e.lineSide = true) (h : ExchangeCourse s v) (hv : v.Inv)
    (hp : v.phase = .transport p) (hx : exchanging v = true) (ht : perform e v = .next v') : ExchangeCourse s v' := by
  cases hsend : p.sending with
  | false =>
    obtain hidle | ⟨q, hq, hrecv⟩ := receiving_phase he hp hsend ht
    · have hb : v'.busy = false := by
        rw [← Bool.not_eq_true, (inv_perform e hv ht).busy_iff]
        exact not_not_intro hidle
      exact .inr ⟨hidle, .inl ((receives_perform he hv hp hsend ht).2 hb)⟩
    · exact .inl ⟨q, hq, fun h => by rw [hrecv] at h; cases h⟩
  | true =>
    have hun : Unanswered s v := by
      obtain ⟨q, hq, hun⟩ | ⟨hidle, -⟩ := h
      · cases hp.symm.trans hq
        exact hun hsend
      · cases hp.symm.trans hidle
    obtain ⟨-, n, rfl⟩ | ⟨-, hw, rfl⟩ | hm := perform_cases he ht
    · rw [sequencerStep_line (s := { v with now := v.now + n }) (p := p) (by rw [hp]; rfl)]
      exact exchangeCourse_sends (sends_lineStep hsend _) hun (hv.later n) hp hx
    · exact exchangeFailed_abort hun hp hx (hv.holds hw).de_eq
    · exact .inl ⟨p, hm.phase.trans hp, fun _ => hun.passive hm⟩

/-- An exchange begins with its flush to come, or is refused with no event (R122, R151). -/
theorem exchangeCourse_startTransmit {st : Bool} {ch : Word} (hs : s.ready) :
    ExchangeCourse s (startTransmit (accept (commandWord 0x3#4 st ch) s)) := by
  have hphase : ∀ q, (accept (commandWord 0x3#4 st ch) s).phase ≠ .attempting q := by simp [hs.phase]
  unfold startTransmit
  split
  · rw [failTransmit_exchange hphase (by simp [exchanging_alone hphase]),
      finish_of_released (s := writeRsp [] (accept _ s)) hs.de]
    exact .inr ⟨rfl, .inr ⟨rfl, rfl, [], by simp, by simp [NoneReceived], .inr ⟨rfl, rfl⟩⟩⟩
  · exact .inl ⟨.txFlush, by simp [hs.phase], fun _ => ⟨[], by simp, by simp [NoneReceived]⟩⟩

/-- What an `EXCHANGE` that has ended answers, on every line (R151, R154). -/
theorem exchange_ended {st : Bool} {ch : Word} (hs : s.ready) (hes : s.script.all Event.lineSide = true)
    (ht : exec (.exchange st ch) s = .next t) (hb : t.busy = false) :
    t.Inv ∧ (t.ReceiveEnded ∨ ExchangeFailed s t) := by
  obtain ⟨-, -, hinv, -, hcourse⟩ :=
    runCommand_course (i := .exchange st ch) rfl (fun _ => .exchange) hs hes ht (fun _ v => ExchangeCourse s v)
      (fun _ _ _ h => h) (exchangeCourse_startTransmit hs)
      (fun _ e v v' he hv hr hp h hv' => by
        obtain ⟨p, hvp, hx⟩ := exchange_phase hr hp
        exact exchangeCourse_perform he h hv hvp hx hv')
  obtain ⟨p, hp, -⟩ | ⟨-, hend⟩ := hcourse
  · exact absurd (hp.symm.trans (hinv.idle_of_not_busy hb)) Phase.noConfusion
  · exact ⟨hinv, hend⟩

/-- Settles O39: the ends of a receive, and that of a failed transmit part; the capacity is the invariant's. -/
theorem exchangeResultsAreComplete : Obligations.ExchangeResultsAreComplete := by
  intro s t st ch hs hes ht hb
  obtain ⟨-, -, -, -, -, -, -, -, hcfg, -⟩ := transportFrame s t _ st ch hs hes (.inr (.inr rfl)) ht
  obtain ⟨hinv, (⟨hok, hne⟩ | htimeout) | ⟨herr, hrsp, -⟩⟩ := exchange_ended hs hes ht hb
  · exact .inl ⟨hok, List.length_pos_of_ne_nil hne, hcfg ▸ hinv.rsp_fits⟩
  · exact .inr (.inr htimeout)
  · exact .inr (.inl ⟨herr, hrsp⟩)

/-- Settles O40: a receive cannot end with `TxError`, so the transmit part has ended the exchange. -/
theorem exchangeStopsAtTxError : Obligations.ExchangeStopsAtTxError := by
  refine ⟨fun s t st ch hs hes ht hb herr => ?_, fun s st ch hs hlen => exchange_refused hs st ch hlen⟩
  obtain ⟨hinv, (⟨hok, -⟩ | ⟨htimeout, -⟩) | ⟨-, hrsp, hadded⟩⟩ := exchange_ended hs hes ht hb
  · cases herr.symm.trans hok
  · cases herr.symm.trans htimeout
  · exact ⟨hrsp, hinv.lineReleased hb, hadded⟩

end Sys2Proof.Machine
end

section
/-! # A transmission run to its end

A transport operation on a scripted line, move by move, alone or inside an attempt: the phase of the operation is
`Phase.within`, and what an operation's end leaves does not depend on the phase or the timers it ended from
(`endTransport_within`). -/

namespace Sys2Proof.Machine

variable {s u v : State} {p : LinePhase} {es : List Event} {gap n : Nat}

/-! ## The phase of an operation, alone or inside an attempt -/

/-- The transport phase `p` of the operation that is in phase `q`. -/
def Phase.within (q : Phase) (p : LinePhase) : Phase :=
  match q with
  | .attempting _ => .attempting p
  | _ => .transport p

theorem enter_eq (p : LinePhase) (s : State) : enter p s = { s with phase := s.phase.within p } := by
  unfold enter Phase.within
  rfl

@[simp] theorem linePhase_within (q : Phase) (p : LinePhase) : linePhase (q.within p) = some p := by
  cases q <;> rfl

@[simp] theorem within_within (q : Phase) (p p' : LinePhase) : (q.within p).within p' = q.within p' := by
  cases q <;> rfl

theorem exchanging_within (hp : u.phase = s.phase.within p) (hc : u.cmd = s.cmd) : exchanging u = exchanging s := by
  unfold exchanging
  rw [hp, hc]
  cases s.phase <;> rfl

theorem finish_within (c : Status) (s : State) (q : Phase) (timers : Timers) :
    finish c { s with phase := q, timers := timers } = finish c s := by
  cases hd : s.de <;> simp [finish, lowerDe, hd, record]

theorem attemptFails_within (s : State) (q : Phase) (timers : Timers) :
    attemptFails { s with phase := q, timers := timers } = attemptFails s := by
  unfold attemptFails
  rfl

theorem concludeAttempt_within (c : Status) (s : State) (q : Phase) (timers : Timers) :
    concludeAttempt c { s with phase := q, timers := timers } = concludeAttempt c s := by
  unfold concludeAttempt
  rw [attemptFails_within]
  rfl

/-- What the end of an operation leaves does not depend on the phase and the timers it ended from (R222, R225). -/
theorem endTransport_within (c : Status) (s : State) (p : LinePhase) (timers : Timers) :
    endTransport c { s with phase := s.phase.within p, timers := timers } = endTransport c s := by
  cases hs : s.phase with
  | attempting q =>
    simp only [endTransport, hs, Phase.within]
    exact concludeAttempt_within c s _ _
  | _ =>
    simp only [endTransport, hs, Phase.within]
    exact finish_within c s _ _

/-! ## One move of a command in progress -/

theorem drive_sequencer (hb : s.busy = true) (hp : linePhase s.phase = some p) :
    drive (.sequencer :: es) s = drive es (lineStep p s) := by
  rw [drive_cons hb rfl, sequencerStep_line hp]

theorem advanceClock_waits (h : deadlinePassed { s with now := s.now + n } = false) :
    advanceClock n s = { s with now := s.now + n } := by
  obtain ⟨-, ht⟩ | ⟨hd, -⟩ := advanceClock_cases n s
  · exact ht
  · cases h.symm.trans hd

theorem drive_clock (hb : s.busy = true) (h : deadlinePassed { s with now := s.now + n } = false) :
    drive (.clock n :: es) s = drive es { s with now := s.now + n } :=
  drive_cons hb (congrArg _ (advanceClock_waits h)) es

theorem drive_uartRoom (hb : s.busy = true) (r : Bool) :
    drive (.uartRoom r :: es) s = drive es { s with txRoom := r } := drive_cons hb rfl es

theorem drive_uartLoad (hb : s.busy = true) : drive (.uartLoad :: es) s = drive es (uartLoad s) :=
  drive_cons hb rfl es

theorem drive_uartShift (hb : s.busy = true) : drive (.uartShift :: es) s = drive es (uartShift s) :=
  drive_cons hb rfl es

theorem drive_line (hb : s.busy = true) (bytes : List Byte) :
    drive (.line bytes :: es) s = drive es (deliver bytes s) := drive_cons hb rfl es

theorem uartLoad_of_head {b : Byte} {rest : List Byte} (hq : s.txq = b :: rest) (hr : s.txsr = none) :
    uartLoad s = { s with txq := rest, txsr := some b } := by
  simp [uartLoad, hq, hr]

/-- In the settle, in the hold, and in a write for which there is room, the clock passes no deadline (R229). -/
theorem deadlinePassed_of_untimed (hp : linePhase s.phase = some p)
    (h : p = .txSettle ∨ p = .txHold ∨ (∃ i, p = .txWrite i ∧ s.txRoom = true)) : deadlinePassed s = false := by
  obtain rfl | rfl | ⟨i, rfl, hroom⟩ := h <;> simp [deadlinePassed, *]

/-! ## The phases of a transmission -/

/-- The transmission begun in `v` when the line has settled and no byte has been handed over. -/
def State.settled (v : State) : State :=
  { v with
    phase := v.phase.within (.txWrite 0), de := true, txRoom := true, rxq := [], now := v.now + v.cfg.tSettle,
    timers := { txBudget := some (v.now + v.cfg.tSettle + v.cfg.tTxBudget) },
    trace := v.trace ++ [(.flush v.rxq.length, v.now), (.deUp, v.now)] }

/-- From the flush to the first write: the stale bytes discarded, the line raised and settled (R123, R124, R126). -/
theorem drive_settle (hb : v.busy = true) (hp : linePhase v.phase = some .txFlush) :
    drive ([.uartRoom true, .sequencer, .sequencer, .clock v.cfg.tSettle, .sequencer] ++ es) v =
      drive es v.settled := by
  simp only [List.cons_append, List.nil_append]
  rw [drive_uartRoom hb, drive_sequencer (p := .txFlush) (by exact hb) (by exact hp)]
  simp only [lineStep, enter_eq]
  rw [drive_sequencer (p := .txAssert) (by exact hb) (by simp)]
  simp only [lineStep, enter_eq]
  rw [drive_clock (by exact hb) (deadlinePassed_of_untimed (p := .txSettle) (by simp) (.inl rfl)),
    drive_sequencer (p := .txSettle) (by exact hb) (by simp)]
  simp [lineStep, enter_eq, expired, uartFlush, raiseDe, record, State.settled]

/-- One byte is handed over, taken into the shift register and sent (R127). -/
theorem drive_write {i : Nat} (hb : u.busy = true) (hp : linePhase u.phase = some (.txWrite i))
    (hi : i < u.req.length) (hroom : u.txRoom = true) (hq : u.txq = []) (hr : u.txsr = none) :
    drive ([.sequencer, .uartLoad, .clock gap, .uartShift] ++ es) u =
      drive es { u with
        phase := u.phase.within (.txWrite (i + 1)), now := u.now + gap,
        timers := { u.timers with hold := some (u.now + gap + u.cfg.tHold) },
        trace := u.trace ++ [(.tx u.req[i], u.now + gap)] } := by
  have hbyte : byteAt u.req i = u.req[i] := by simp [byteAt, hi]
  simp only [List.cons_append, List.nil_append]
  rw [drive_sequencer hb hp]
  simp only [lineStep, writePhase, if_pos hi, if_pos hroom, enter_eq, hbyte]
  rw [drive_uartLoad (by exact hb), uartLoad_of_head (b := u.req[i]) (rest := []) (by simp [hq]) (by simp [hr]),
    drive_clock (by exact hb)
      (deadlinePassed_of_untimed (p := .txWrite (i + 1)) (by simp) (.inr (.inr ⟨_, rfl, by exact hroom⟩))),
    drive_uartShift (by exact hb), uartShift_of_byte (b := u.req[i]) rfl]
  simp [record, uartWrite, hq, hr]

/-- The bytes from offset `i` on are sent one after the other (R61, R127). -/
theorem drive_writes {i : Nat} (hb : u.busy = true) (hp : linePhase u.phase = some (.txWrite i))
    (hn : i + n = u.req.length) (hpos : 1 ≤ n) (hroom : u.txRoom = true) (hq : u.txq = []) (hr : u.txsr = none) :
    drive (writesScript gap n ++ es) u =
      drive es { u with
        phase := u.phase.within (.txWrite u.req.length), now := u.now + gap * n,
        timers := { u.timers with hold := some (u.now + gap * n + u.cfg.tHold) },
        trace := u.trace ++ txTrace gap u.now (u.req.drop i) } := by
  induction n generalizing i u with
  | zero => cases hpos
  | succ n ih =>
    have hi : i < u.req.length := by omega
    rw [writesScript, List.append_assoc, drive_write hb hp hi hroom hq hr, List.drop_eq_getElem_cons hi]
    cases n with
    | zero =>
      have hlast : i + 1 = u.req.length := hn
      simp [writesScript, txTrace, hlast]
    | succ n =>
      have htime : u.now + gap + gap * (n + 1) = u.now + gap * (n + 1 + 1) := by ring
      rw [ih (i := i + 1) (by exact hb) (by simp) (by simpa using by omega) (by omega) (by exact hroom) (by exact hq)
        (by exact hr)]
      simp only [within_within, txTrace, htime, List.append_assoc, List.cons_append, List.nil_append]

/-- After the last bit the line is held and then released (R128, R130). -/
theorem drive_hold (hb : u.busy = true) (hp : linePhase u.phase = some (.txWrite u.req.length)) (hq : u.txq = [])
    (hr : u.txsr = none) (hh : u.timers.hold = some (u.now + u.cfg.tHold)) :
    drive ([.sequencer, .sequencer, .clock u.cfg.tHold, .sequencer, .sequencer] ++ es) u =
      drive es (releasePhase { u with
        phase := u.phase.within .txRelease, now := u.now + u.cfg.tHold,
        timers := { u.timers with txBudget := none } }) := by
  simp only [List.cons_append, List.nil_append]
  rw [drive_sequencer hb hp]
  simp only [lineStep, writePhase, lt_irrefl, if_false, enter_eq]
  rw [drive_sequencer (p := .txWaitTc) (by exact hb) (by simp)]
  simp only [lineStep, waitTcPhase, uartTc, hq, hr, enter_eq]
  rw [if_pos (by rfl), drive_clock (by exact hb) (deadlinePassed_of_untimed (p := .txHold) (by simp) (.inr (.inl rfl))),
    drive_sequencer (p := .txHold) (by exact hb) (by simp)]
  simp only [lineStep, enter_eq, hh, expired]
  rw [if_pos (by simp), drive_sequencer (p := .txRelease) (by exact hb) (by simp)]
  simp [lineStep]

/-! ## The whole transmission -/

/-- What the transmission of `sendScript` leaves of the state `v` in which it begins: the wire trace of R61, the stale
bytes discarded, and the time it took. -/
def State.sent (v : State) (gap : Nat) : State :=
  { v with txRoom := true, rxq := [], timers := {}, now := sendEnd v.cfg gap v.now v.req.length,
           trace := v.trace ++ sendTrace v.cfg gap v.rxq.length v.now v.req }

/-- A transmission that begins: busy, at its flush, in receive mode, with a byte to send. -/
structure State.Flushes (v : State) : Prop where
  busy : v.busy = true
  phase : linePhase v.phase = some .txFlush
  quiet : v.Quiet
  nonempty : 1 ≤ v.req.length

/-- The release of the line ends the operation or begins its receive (R131, R152). -/
theorem releasePhase_within (hde : u.de = true) :
    releasePhase { u with phase := u.phase.within p } =
      if exchanging u then
        enter .rxWaitFirst { u with de := false, trace := u.trace ++ [(.deDown, u.now)], timers := {} }
      else endTransport .ok { u with de := false, trace := u.trace ++ [(.deDown, u.now)] } := by
  have hlower : lowerDe { u with phase := u.phase.within p } =
      { u with phase := u.phase.within p, de := false, trace := u.trace ++ [(.deDown, u.now)] } := by
    rw [lowerDe, if_pos hde]
    rfl
  rw [releasePhase, hlower, exchanging_within (s := u) (p := p) (by rfl) (by rfl)]
  split
  · simp [startReceive, enter_eq]
  · exact endTransport_within .ok { u with de := false, trace := u.trace ++ [(.deDown, u.now)] } p u.timers

/-- The transmission begun in `v` when the last bit has left and the hold has run. -/
def State.held (v : State) (gap : Nat) : State :=
  { v.settled with
    phase := v.phase.within (.txWrite v.req.length), now := sendEnd v.cfg gap v.now v.req.length,
    timers := { hold := some (sendEnd v.cfg gap v.now v.req.length) },
    trace := v.settled.trace ++ txTrace gap (v.now + v.cfg.tSettle) v.req }

/-- The release after the hold leaves what the transmission leaves. -/
theorem releasePhase_held (hq : v.Quiet) :
    releasePhase { v.held gap with phase := (v.held gap).phase.within .txRelease } =
      if exchanging v then enter .rxWaitFirst (v.sent gap) else endTransport .ok (v.sent gap) := by
  obtain ⟨hde, -⟩ := hq
  rw [releasePhase_within rfl, exchanging_within (s := v) (p := .txWrite v.req.length) (by rfl) (by rfl),
    ← endTransport_within .ok (v.sent gap) (.txWrite v.req.length) (v.held gap).timers]
  simp [enter_eq, State.held, State.settled, State.sent, sendTrace, sendEnd, hde]

/-- A transmission against a transmitter that takes every byte sends `REQ` whole; then the operation ends `OK`, or its
receive begins (R121, R152). -/
theorem drive_sendScript (hv : v.Flushes) :
    drive (sendScript v.cfg gap v.req.length ++ es) v =
      drive es (if exchanging v then enter .rxWaitFirst (v.sent gap) else endTransport .ok (v.sent gap)) := by
  obtain ⟨hb, hp, hquiet, hlen⟩ := hv
  obtain ⟨hde, hq, hr⟩ := id hquiet
  rw [sendScript, List.append_assoc, List.append_assoc, drive_settle hb hp,
    drive_writes (u := v.settled) (n := v.req.length) (i := 0) hb (linePhase_within _ _) (Nat.zero_add _) hlen rfl hq hr,
    ← releasePhase_held hquiet]
  refine (drive_hold (u := { v.settled with
    phase := v.settled.phase.within (.txWrite v.req.length), now := v.settled.now + gap * v.req.length,
    timers := _, trace := _ }) hb (linePhase_within _ _) hq hr rfl).trans ?_
  simp [State.held, State.settled, sendEnd]

/-- An operand that passes the length check is sent from the flush on (R121, R122). -/
theorem startTransmit_flushes (w : CommandWord) (hs : s.ready) (hover : s.reqOver = none) (hlen : 1 ≤ s.req.length) :
    startTransmit (accept w s) = enter .txFlush (accept w s) ∧ (enter .txFlush (accept w s)).Flushes := by
  have hfits := hs.1.req_fits
  have hop : requestOperand (accept w s) = s.req := by simp [requestOperand, hover]
  refine ⟨?_, rfl, linePhase_enter _ _, ⟨hs.de, hs.txq, hs.txsr⟩, hlen⟩
  rw [startTransmit, hop, if_neg (by rw [accept_cfg]; omega)]

/-- A command that ends an operation outside an attempt, with the line released (R222). -/
theorem drive_endTransport (c : Status) (hs : ∀ q, s.phase ≠ .attempting q) (hde : s.de = false) :
    drive es (endTransport c s) =
      .next { s with status := c, phase := .idle, busy := false, done := true, timers := {}, script := es } := by
  rw [endTransport_alone hs, drive_idle (finish_busy c s), finish_of_released hde]

/-- Settles O26: the command begins at its flush, and its transmission ends it. -/
theorem transmitSendsTheRequest : Obligations.TransmitSendsTheRequest := by
  intro s st ch gap rest hs hover hlen hscript
  obtain ⟨hstart, hflush⟩ := startTransmit_flushes (commandWord 0x1#4 st ch) hs hover hlen
  have hphase : ∀ q, (enter .txFlush (accept (commandWord 0x1#4 st ch) s)).phase ≠ .attempting q := by simp [hs.phase]
  have hx : exchanging (enter .txFlush (accept (commandWord 0x1#4 st ch) s)) = false := by
    simp [exchanging_alone hphase]
  rw [exec, execTransmit, runCommand_ready hs, hstart, hscript]
  refine (drive_sendScript hflush).trans ?_
  rw [if_neg (by simp [hx])]
  exact drive_endTransport (s := State.sent (enter .txFlush (accept (commandWord 0x1#4 st ch) s)) gap) .ok hphase hs.de

end Sys2Proof.Machine
end

section
/-! # A receive run to its end

A receive that listens has a deadline: that of the first byte or of the idle time (`State.Listens`). While it is not passed
the next byte is taken; when it is reached with nothing waiting, the receive ends. -/

namespace Sys2Proof.Machine

variable {s u v : State} {es : List Event} {gap n d : Nat}

/-! ## A receive that listens -/

/-- The receive in progress listens until the tick `d` (R140, R141). -/
def State.Listens (d : Nat) (s : State) : Prop :=
  (linePhase s.phase = some .rxWaitFirst ∧ s.timers.first = some d) ∨
  (linePhase s.phase = some .rxCollect ∧ s.timers.idle = some d)

/-- What the taking of a byte leads to: the capacity stop, or the wait for the next (R141, R142). -/
def State.afterByte (s : State) : State :=
  if s.rsp.length = s.cfg.rxCap then endTransport .ok s
  else enter .rxCollect { s with timers := { idle := some (s.now + s.cfg.tIdle) } }

theorem takeByte_eq (b : Byte) (rest : List Byte) (s : State) :
    takeByte b rest s = (storeReceived b rest s).afterByte := rfl

/-- The capacity stop and the next wait do not depend on the phase and the timers the byte was taken in. -/
theorem afterByte_within (s : State) (p : LinePhase) (timers : Timers) :
    State.afterByte { s with phase := s.phase.within p, timers := timers } = s.afterByte := by
  simp only [State.afterByte, endTransport_within, enter_eq, within_within]

theorem afterByte_full (h : s.rsp.length = s.cfg.rxCap) : s.afterByte = endTransport .ok s := if_pos h

/-- `s`, its receive collecting, with the idle timer just started (R141). -/
def State.collects (s : State) : State :=
  { s with phase := s.phase.within .rxCollect, timers := { idle := some (s.now + s.cfg.tIdle) } }

theorem afterByte_room (h : s.rsp.length < s.cfg.rxCap) : s.afterByte = s.collects := by
  rw [State.afterByte, if_neg (Nat.ne_of_lt h), enter_eq]
  rfl

theorem collects_listens (s : State) : s.collects.Listens (s.now + s.cfg.tIdle) := .inr ⟨linePhase_within _ _, rfl⟩

/-- A waiting byte is taken, whatever the deadline (R141, R143). -/
theorem State.Listens.take {b : Byte} {rest : List Byte} (h : s.Listens d) (hq : s.rxq = b :: rest) :
    sequencerStep s = (storeReceived b rest s).afterByte := by
  obtain ⟨hp, ht⟩ | ⟨hp, -⟩ := h <;> rw [sequencerStep_line hp, ← takeByte_eq]
  · simp [lineStep, waitFirstPhase, ht, hq]
  · simp [lineStep, collectPhase, hq]

/-- With nothing waiting the first-byte deadline ends the receive `RxTimeout` (R143). -/
theorem waitFirst_expires (hp : linePhase s.phase = some .rxWaitFirst) (ht : s.timers.first = some d) (hd : d ≤ s.now)
    (hq : s.rxq = []) : sequencerStep s = endTransport .rxTimeout s := by
  simp [sequencerStep_line hp, lineStep, waitFirstPhase, ht, hq, expired, hd]

/-- With nothing waiting the idle deadline ends the receive `OK` (R141, R144). -/
theorem collect_expires (hp : linePhase s.phase = some .rxCollect) (ht : s.timers.idle = some d) (hd : d ≤ s.now)
    (hq : s.rxq = []) : sequencerStep s = endTransport .ok s := by
  simp [sequencerStep_line hp, lineStep, collectPhase, ht, hq, expired, hd]

/-- The clock can come up to the deadline (R229). -/
theorem State.Listens.not_passed (h : s.Listens d) (hd : s.now ≤ d) : deadlinePassed s = false := by
  obtain ⟨hp, ht⟩ | ⟨hp, ht⟩ := h <;> simp [deadlinePassed, hp, ht, overdue, hd]

theorem drive_take {b : Byte} {rest : List Byte} (hb : s.busy = true) (h : s.Listens d) (hq : s.rxq = b :: rest) :
    drive (.sequencer :: es) s = drive es (storeReceived b rest s).afterByte := by
  rw [drive_cons hb rfl, h.take hq]

/-- A byte that is delivered before the poll is taken, on the tick of the deadline too (R146). -/
theorem drive_delivery {b : Byte} (hb : s.busy = true) (hde : s.de = false) (h : s.Listens d) (hq : s.rxq = []) :
    drive ([.line [b], .sequencer] ++ es) s = drive es (storeReceived b [] s).afterByte := by
  have hdeliver : deliver [b] s = { s with rxq := [b] } := by simp [deliver, hde, hq]
  simp only [List.cons_append, List.nil_append]
  rw [drive_line hb, hdeliver]
  exact drive_take (s := { s with rxq := [b] }) hb h rfl

/-- A byte that arrives no later than the deadline is taken (R141). -/
theorem drive_arrival {b : Byte} (hb : s.busy = true) (hde : s.de = false) (h : s.Listens d) (hq : s.rxq = [])
    (hd : s.now + gap ≤ d) :
    drive ([.clock gap, .line [b], .sequencer] ++ es) s =
      drive es (storeReceived b [] { s with now := s.now + gap }).afterByte := by
  have hlisten : State.Listens d { s with now := s.now + gap } := h
  rw [List.cons_append, drive_clock hb (hlisten.not_passed hd)]
  exact drive_delivery (s := { s with now := s.now + gap }) hb hde h hq

/-- The sequencer polls on the tick the clock has come to, no later than the deadline. -/
theorem drive_poll (hb : s.busy = true) (h : s.Listens d) (hd : s.now + n ≤ d) :
    drive ([.clock n, .sequencer] ++ es) s = drive es (sequencerStep { s with now := s.now + n }) := by
  have hlisten : State.Listens d { s with now := s.now + n } := h
  simp only [List.cons_append, List.nil_append]
  rw [drive_clock hb (hlisten.not_passed hd), drive_cons (by exact hb) rfl]

/-! ## All the bytes of a receive -/

/-- `s` when its receive has taken the bytes `bs`, with the events `evs`, has come to the tick `t` and has left `rest`
waiting. -/
def State.took (s : State) (bs : List Byte) (evs : List (WireEvent × Nat)) (t : Nat) (rest : List Byte) : State :=
  { s with rsp := s.rsp ++ bs, rspWritten := true, rxq := rest, now := t, trace := s.trace ++ evs }

theorem storeReceived_eq (b : Byte) (rest : List Byte) (s : State) :
    storeReceived b rest s = s.took [b] [(.rx b, s.now)] s.now rest := rfl

theorem took_took (s : State) (bs bs' : List Byte) (evs evs' : List (WireEvent × Nat)) (t t' : Nat)
    (rest rest' : List Byte) :
    (s.took bs evs t rest).took bs' evs' t' rest' = s.took (bs ++ bs') (evs ++ evs') t' rest' := by
  simp [State.took]

/-- Bytes that each arrive in time are all taken (R141). -/
theorem drive_arrivals (b : Byte) (bs : List Byte) (hb : s.busy = true) (hde : s.de = false) (h : s.Listens d)
    (hq : s.rxq = []) (hd : s.now + gap ≤ d) (hidle : gap ≤ s.cfg.tIdle)
    (hcap : s.rsp.length + (b :: bs).length ≤ s.cfg.rxCap) :
    drive (arrivals gap (b :: bs) ++ es) s =
      drive es (s.took (b :: bs) (rxTrace gap s.now (b :: bs)) (s.now + gap * (b :: bs).length) []).afterByte := by
  induction bs generalizing b s d with
  | nil =>
    rw [arrivals, List.append_assoc, drive_arrival hb hde h hq hd]
    simp [arrivals, rxTrace, storeReceived_eq, State.took]
  | cons b' bs ih =>
    have hroom : (storeReceived b [] { s with now := s.now + gap }).rsp.length < s.cfg.rxCap := by
      simp only [List.length_cons, List.length_append, List.length_nil, storeReceived_rsp] at hcap ⊢
      omega
    rw [arrivals, List.append_assoc, drive_arrival hb hde h hq hd, afterByte_room hroom]
    refine (ih b' (s := (storeReceived b [] { s with now := s.now + gap }).collects) hb hde (collects_listens _) rfl (Nat.add_le_add_left hidle _) hidle ?_).trans (congrArg (drive es) ?_)
    · simpa [State.collects, Nat.add_assoc, Nat.add_comm, Nat.add_left_comm] using hcap
    · have htime : s.now + gap + gap * (b' :: bs).length = s.now + gap * (b :: b' :: bs).length := by
        simp only [List.length_cons]
        ring
      exact (afterByte_within ((storeReceived b [] { s with now := s.now + gap }).took (b' :: bs)
        (rxTrace gap (s.now + gap) (b' :: bs)) (s.now + gap + gap * (b' :: bs).length) []) .rxCollect _).trans
        (by rw [htime, storeReceived_eq, took_took]; rfl)

/-- Bytes that already wait are taken one after the other, at once (R141, R142). -/
theorem drive_waiting (b : Byte) (bs rest : List Byte) (hb : s.busy = true) (h : s.Listens d)
    (hq : s.rxq = b :: bs ++ rest) (hcap : s.rsp.length + (b :: bs).length ≤ s.cfg.rxCap) :
    drive (List.replicate (b :: bs).length .sequencer ++ es) s =
      drive es (s.took (b :: bs) ((b :: bs).map fun x => (.rx x, s.now)) s.now rest).afterByte := by
  induction bs generalizing b s d with
  | nil => exact drive_take hb h hq
  | cons b' bs ih =>
    have hroom : (storeReceived b (b' :: bs ++ rest) s).rsp.length < s.cfg.rxCap := by
      simp only [List.length_cons, List.length_append, List.length_nil, storeReceived_rsp] at hcap ⊢
      omega
    rw [List.length_cons, List.replicate_succ, List.cons_append,
      drive_take (b := b) (rest := b' :: bs ++ rest) hb h hq, afterByte_room hroom]
    refine (ih b' (s := (storeReceived b (b' :: bs ++ rest) s).collects) hb (collects_listens _) rfl ?_).trans (congrArg (drive es) ?_)
    · simpa [State.collects, Nat.add_assoc, Nat.add_comm, Nat.add_left_comm] using hcap
    · exact (afterByte_within ((storeReceived b (b' :: bs ++ rest) s).took (b' :: bs)
        ((b' :: bs).map fun x => (.rx x, s.now)) s.now rest) .rxCollect _).trans
        (by rw [storeReceived_eq, took_took]; rfl)

/-- After the last byte: the capacity stop at once, or the expiry of the idle time (R141, R142). -/
theorem drive_afterByte (hb : s.busy = true) (hq : s.rxq = []) (hcap : s.rsp.length ≤ s.cfg.rxCap) :
    drive ((if s.rsp.length = s.cfg.rxCap then [] else [.clock s.cfg.tIdle, .sequencer]) ++ es) s.afterByte =
      drive es (endTransport .ok
        { s with now := s.now + (if s.rsp.length = s.cfg.rxCap then 0 else s.cfg.tIdle) }) := by
  split
  · rw [afterByte_full ‹_›]
    rfl
  · rw [afterByte_room (by omega)]
    refine (drive_poll (s := s.collects) hb (collects_listens s) le_rfl).trans (congrArg (drive es) ?_)
    exact (collect_expires (s := { s.collects with now := s.now + s.cfg.tIdle }) (linePhase_within _ _) rfl le_rfl
      hq).trans (endTransport_within .ok { s with now := s.now + s.cfg.tIdle } .rxCollect _)

/-! ## A receive from its start -/

/-- A receive that begins: busy, in receive mode, its first-byte timer not yet started (R140). -/
structure State.Awaits (v : State) : Prop where
  busy : v.busy = true
  de : v.de = false
  phase : linePhase v.phase = some .rxWaitFirst
  first : v.timers.first = none

/-- The receive that begins in `v`, once its first-byte timer runs: nothing received so far (R140). -/
def State.awaiting (v : State) : State :=
  { v with rsp := [], rspWritten := true, timers := { first := some (v.now + firstByteTimeout v) } }

theorem drive_await (hv : v.Awaits) : drive (.sequencer :: es) v = drive es v.awaiting := by
  rw [drive_sequencer hv.busy hv.phase]
  simp only [lineStep, waitFirstPhase, hv.first]
  rfl

theorem State.Awaits.listens (hv : v.Awaits) : v.awaiting.Listens (v.now + firstByteTimeout v) := .inl ⟨hv.phase, rfl⟩

/-- What the receive of `answerScript` leaves of the state `v` in which it begins. -/
def State.answered (v : State) (gap : Nat) (bytes : List Byte) : State :=
  { v with rsp := bytes, rspWritten := true, timers := {}, now := answerEnd v.cfg gap v.now bytes.length,
           trace := v.trace ++ rxTrace gap v.now bytes }

/-- What the end of an operation leaves does not depend on the timers. -/
theorem endTransport_timers (c : Status) (s : State) (timers : Timers) :
    endTransport c { s with timers := timers } = endTransport c s :=
  (endTransport_within c { s with timers := timers } .rxWaitFirst timers).symm.trans
    (endTransport_within c s .rxWaitFirst timers)

/-- A receive against a line that answers in time ends `OK` with the answer (R140, R141, R142). -/
theorem drive_answerScript {bytes : List Byte} (hv : v.Awaits) (hq : v.rxq = []) (hlen : 1 ≤ bytes.length)
    (hcap : bytes.length ≤ v.cfg.rxCap) (hgap : gap ≤ firstByteTimeout v) (hidle : gap ≤ v.cfg.tIdle) :
    drive (answerScript v.cfg gap bytes ++ es) v = drive es (endTransport .ok (v.answered gap bytes)) := by
  obtain ⟨b, bs, rfl⟩ := List.exists_cons_of_length_pos hlen
  rw [answerScript, List.append_assoc, List.append_assoc, List.cons_append, List.nil_append, drive_await hv,
    drive_arrivals (s := v.awaiting) b bs hv.busy hv.de hv.listens hq (Nat.add_le_add_left hgap _) hidle
      (by simpa [State.awaiting] using hcap)]
  refine (drive_afterByte (s := v.awaiting.took (b :: bs) _ _ []) hv.busy rfl hcap).trans (congrArg (drive es) ?_)
  rw [← endTransport_timers .ok (v.answered gap (b :: bs)) v.awaiting.timers]
  simp [State.took, State.awaiting, State.answered, answerEnd, hq]

/-- On a silent line a receive ends `RxTimeout` with nothing received (R143, R213). -/
theorem drive_silenceScript (hv : v.Awaits) (hq : v.rxq = []) :
    drive (silenceScript (firstByteTimeout v) ++ es) v =
      drive es (endTransport .rxTimeout
        { v with rsp := [], rspWritten := true, now := v.now + firstByteTimeout v }) := by
  rw [silenceScript, List.cons_append, drive_await hv]
  refine (drive_poll (s := v.awaiting) hv.busy hv.listens le_rfl).trans (congrArg (drive es) ?_)
  exact (waitFirst_expires (s := { v.awaiting with now := v.now + firstByteTimeout v }) hv.phase rfl le_rfl hq).trans
    (endTransport_timers .rxTimeout
      { v with rsp := [], rspWritten := true, now := v.now + firstByteTimeout v } v.awaiting.timers)

/-- A receive that finds bytes waiting takes them at once, whatever its timeout (R143). -/
theorem drive_await_waiting {bytes rest : List Byte} (hv : v.Awaits) (hq : v.rxq = bytes ++ rest)
    (hlen : 1 ≤ bytes.length) (hcap : bytes.length ≤ v.cfg.rxCap) :
    drive (List.replicate (bytes.length + 1) .sequencer ++ es) v =
      drive es (v.awaiting.took bytes (bytes.map fun x => (.rx x, v.now)) v.now rest).afterByte := by
  obtain ⟨b, bs, rfl⟩ := List.exists_cons_of_length_pos hlen
  rw [List.replicate_succ, List.cons_append, drive_await hv]
  exact drive_waiting (s := v.awaiting) b bs rest hv.busy hv.listens hq (by simpa [State.awaiting] using hcap)

/-! ## The statements of RECEIVE -/

/-- An accepted `RECEIVE` is about to start its first-byte timer, of the timeout on the port (R26, R140). -/
theorem startReceive_awaits (w : CommandWord) (hs : s.ready) :
    (startReceive (accept w s)).Awaits ∧ firstByteTimeout (startReceive (accept w s)) = s.tmoIn ∧
      ∀ q, (startReceive (accept w s)).phase ≠ .attempting q := by
  have hphase : (startReceive (accept w s)).phase = .transport .rxWaitFirst := by simp [startReceive, hs.phase]
  refine ⟨⟨rfl, hs.de, by rw [hphase]; rfl, rfl⟩, ?_, by simp [hphase]⟩
  simp only [firstByteTimeout, hphase]
  rfl

/-- Settles O33: the command awaits the first byte, and the answer ends its receive. -/
theorem receiveCollectsTheAnswer : Obligations.ReceiveCollectsTheAnswer := by
  intro s st ch gap bytes rest hs hq hlen hcap hgap hidle hscript
  obtain ⟨hawait, htmo, hphase⟩ := startReceive_awaits (commandWord 0x2#4 st ch) hs
  rw [exec, execReceive, runCommand_ready hs, hscript]
  refine (drive_answerScript hawait hq hlen hcap (by rwa [htmo]) hidle).trans ?_
  exact drive_endTransport (s := State.answered (startReceive (accept (commandWord 0x2#4 st ch) s)) gap bytes) .ok hphase
    hs.de

/-- Settles O35: the command awaits the first byte, and the silence ends its receive. -/
theorem receiveTimesOut : Obligations.ReceiveTimesOut := by
  intro s st ch rest hs hq hscript
  obtain ⟨hawait, htmo, hphase⟩ := startReceive_awaits (commandWord 0x2#4 st ch) hs
  rw [exec, execReceive, runCommand_ready hs, hscript, ← htmo]
  refine (drive_silenceScript hawait hq).trans ?_
  exact drive_endTransport (s := { startReceive (accept (commandWord 0x2#4 st ch) s) with
    rsp := [], rspWritten := true, now := _ }) .rxTimeout hphase hs.de

/-- Settles O34: the bytes that wait are taken at once, up to the capacity stop or the expiry of the idle time. -/
theorem receiveStopsAtCapacity : Obligations.ReceiveStopsAtCapacity := by
  refine ⟨fun s st ch rest hs hcap hscript => ?_, fun s st ch rest hs hlen hcap hscript => ?_⟩ <;>
    obtain ⟨hawait, -, hphase⟩ := startReceive_awaits (commandWord 0x2#4 st ch) hs <;>
    rw [exec, execReceive, runCommand_ready hs, hscript]
  · obtain ⟨-, -, -, -, -, -, hpos, -⟩ := Config.bounds_of_ok hs.2.2
    have hfull : (s.rxq.take s.cfg.rxCap).length = s.cfg.rxCap := List.length_take_of_le hcap
    have htaken := drive_await_waiting (bytes := s.rxq.take s.cfg.rxCap) (rest := s.rxq.drop s.cfg.rxCap) (es := rest)
      hawait (List.take_append_drop _ _).symm (by omega) hfull.le
    rw [hfull, afterByte_full (by exact hfull)] at htaken
    exact htaken.trans (drive_endTransport .ok hphase hs.de)
  · have htaken := drive_await_waiting (bytes := s.rxq) (rest := []) (es := [.clock s.cfg.tIdle, .sequencer] ++ rest)
      hawait (List.append_nil _).symm hlen hcap.le
    have hidle := drive_afterByte (es := rest) (s := (startReceive (accept (commandWord 0x2#4 st ch) s)).awaiting.took
      s.rxq (s.rxq.map fun x => (.rx x, s.now)) s.now []) hawait.busy rfl hcap.le
    rw [if_neg (by exact hcap.ne), if_neg (by exact hcap.ne)] at hidle
    rw [List.append_assoc]
    exact (htaken.trans hidle).trans (drive_endTransport .ok hphase hs.de)

end Sys2Proof.Machine
end

section
/-! # An exchange run to its end, and the coincidences with a deadline -/

namespace Sys2Proof.Machine

variable {s t : State} {p : LinePhase} {b : Byte} {n d i : Nat}

/-! ## The whole exchange -/

theorem firstByteTimeout_within (hp : t.phase = s.phase.within p) (hc : t.cfg = s.cfg) (ht : t.tmo = s.tmo) :
    firstByteTimeout t = firstByteTimeout s := by
  unfold firstByteTimeout
  rw [hp, hc, ht]
  cases s.phase <;> rfl

/-- A transmission against a willing transmitter leads to a receive, which a line that answers in time ends (R150, R152). -/
theorem drive_exchange {v : State} {gap : Nat} {bytes : List Byte} {es : List Event} (hv : v.Flushes)
    (hx : exchanging v = true) (hlen : 1 ≤ bytes.length) (hcap : bytes.length ≤ v.cfg.rxCap)
    (hgap : gap ≤ firstByteTimeout v) (hidle : gap ≤ v.cfg.tIdle) :
    drive (sendScript v.cfg gap v.req.length ++ (answerScript v.cfg gap bytes ++ es)) v =
      drive es (endTransport .ok ((v.sent gap).answered gap bytes)) := by
  have hwait : (enter .rxWaitFirst (v.sent gap)).Awaits := ⟨hv.busy, hv.quiet.1, linePhase_enter _ _, rfl⟩
  have htmo : firstByteTimeout (enter .rxWaitFirst (v.sent gap)) = firstByteTimeout v :=
    firstByteTimeout_within (p := .rxWaitFirst) (by rw [enter_eq]; rfl) rfl rfl
  rw [drive_sendScript hv, if_pos hx]
  refine (drive_answerScript hwait rfl hlen hcap (htmo ▸ hgap) hidle).trans (congrArg (drive es) ?_)
  rw [enter_eq]
  exact endTransport_within .ok ((v.sent gap).answered gap bytes) .rxWaitFirst _

/-- Settles O38: the command begins at its flush, and the answer ends its exchange. -/
theorem exchangeReturnsTheAnswer : Obligations.ExchangeReturnsTheAnswer := by
  intro s st ch gap bytes rest hs hover hreq hlen hcap hgap hidle hscript
  obtain ⟨hstart, hflush⟩ := startTransmit_flushes (commandWord 0x3#4 st ch) hs hover hreq
  have hphase : (enter .txFlush (accept (commandWord 0x3#4 st ch) s)).phase = .transport .txFlush := by simp [hs.phase]
  have hx : exchanging (enter .txFlush (accept (commandWord 0x3#4 st ch) s)) = true := by
    simp [exchanging, hs.phase]
  have htmo : firstByteTimeout (enter .txFlush (accept (commandWord 0x3#4 st ch) s)) = s.tmoIn := by
    rw [firstByteTimeout, hphase]
    rfl
  rw [exec, execExchange, runCommand_ready hs, hstart, hscript, List.append_assoc]
  refine (drive_exchange hflush hx hlen hcap (htmo ▸ hgap) hidle).trans ?_
  exact drive_endTransport (s := State.answered (State.sent (enter .txFlush (accept (commandWord 0x3#4 st ch) s)) gap)
    gap bytes) .ok (fun q hq => by cases hphase.symm.trans hq) hs.de

/-! ## A receive and its deadline -/

/-- A `RECEIVE` in progress: busy, in receive mode, its first byte kept if there is one (R140). -/
theorem State.Inv.receiving (h : s.Inv) (hp : s.phase = .transport p) (hr : p.sending = false) :
    s.busy = true ∧ s.de = false ∧ 8 ≤ s.cfg.rxCap := by
  have hb : s.busy = true := h.busy_iff.mpr (by simp [hp])
  obtain ⟨-, -, -, -, -, -, hcap, -⟩ := Config.bounds_of_ok (h.cfg_ok hb)
  exact ⟨hb, h.de_eq.trans (by rw [hp]; exact LinePhase.drives_of_receiving hr), hcap⟩

/-- Once the clock has passed the first-byte deadline the receive is over (R143, R229). -/
theorem advanceClock_waitFirst (hp : linePhase s.phase = some .rxWaitFirst) (ht : s.timers.first = some d)
    (hq : s.rxq = []) (hd : d < s.now + n) :
    advanceClock n s = endTransport .rxTimeout { s with now := s.now + n } := by
  have hpast : deadlinePassed { s with now := s.now + n } = true := by
    simp [deadlinePassed, hp, uartAvail, hq, ht, overdue, hd]
  obtain ⟨hnot, -⟩ | ⟨-, h⟩ := advanceClock_cases n s
  · cases hnot.symm.trans hpast
  · rw [h]
    exact waitFirst_expires (s := { s with now := s.now + n }) hp ht hd.le hq

/-- Settles O37: the clock's move ends the receive, and the byte stays in the receive path. -/
theorem lateByteIsNotTaken : Obligations.LateByteIsNotTaken := by
  intro s d n b hs _ hp ht hq hd
  have hl : linePhase s.phase = some .rxWaitFirst := by rw [hp]; rfl
  obtain ⟨hb, hde, -⟩ := hs.receiving hp rfl
  have hrsp : s.rsp = [] := hs.wait_empty hl (by simp [ht])
  refine ⟨_, _, congrArg Host.Outcome.next (advanceClock_waitFirst hl ht hq hd), rfl, ?_⟩
  rw [endTransport_alone (s := { s with now := s.now + n }) (by simp [hp])]
  simp [hrsp, hq]

/-- Where the timer of a receive wins, the receive ends and a byte that comes after it stays. -/
theorem deadline_wins {c : Status} (hb : s.busy = true) (hde : s.de = false) (hp : s.phase = .transport p)
    (hq : s.rxq = []) (h : sequencerStep s = endTransport c s) (b : Byte) :
    ∃ t u, drive [.sequencer] s = .next t ∧ perform (.line [b]) t = .next u ∧
      t.busy = false ∧ t.status = c ∧ u.rsp = s.rsp ∧ u.rxq = [b] := by
  have hrun : drive [.sequencer] s = drive [] (endTransport c s) := by rw [drive_cons hb rfl, h]
  refine ⟨_, _, hrun.trans (drive_endTransport c (by simp [hp]) hde), rfl, rfl, rfl, ?_, ?_⟩
  · simp
  · simp [hde, hq]

/-- On the tick of the first-byte deadline (R146). -/
theorem waitFirst_coincidence (hs : s.Inv) (hp : s.phase = .transport .rxWaitFirst)
    (ht : s.timers.first = some s.now) (hq : s.rxq = []) (b : Byte) :
    (∃ t, drive [.line [b], .sequencer] s = .next t ∧ t.busy = true ∧ t.rsp = [b] ∧ t.rxq = []) ∧
    (∃ t u, drive [.sequencer] s = .next t ∧ perform (.line [b]) t = .next u ∧
      t.busy = false ∧ t.status = .rxTimeout ∧ u.rsp = [] ∧ u.rxq = [b]) := by
  have hl : linePhase s.phase = some .rxWaitFirst := by rw [hp]; rfl
  obtain ⟨hb, hde, hcap⟩ := hs.receiving hp rfl
  have hrsp : s.rsp = [] := hs.wait_empty hl (by simp [ht])
  have hroom : (storeReceived b [] s).rsp.length < s.cfg.rxCap := by
    simp only [storeReceived_rsp, hrsp, List.nil_append, List.length_singleton]
    omega
  constructor
  · have hrun := drive_delivery (b := b) (es := []) hb hde (.inl ⟨hl, ht⟩) hq
    rw [afterByte_room hroom] at hrun
    refine ⟨_, hrun, hb, ?_, rfl⟩
    simp [State.collects, hrsp]
  · simpa only [hrsp] using deadline_wins hb hde hp hq (waitFirst_expires hl ht le_rfl hq) b

/-- On the tick of the idle deadline (R146). -/
theorem collect_coincidence (hs : s.Inv) (hp : s.phase = .transport .rxCollect) (ht : s.timers.idle = some s.now)
    (hq : s.rxq = []) (b : Byte) :
    (∃ t, drive [.line [b], .sequencer] s = .next t ∧ t.rsp = s.rsp ++ [b] ∧ t.rxq = [] ∧
      (t.busy = true ↔ t.rsp.length < s.cfg.rxCap)) ∧
    (∃ t u, drive [.sequencer] s = .next t ∧ perform (.line [b]) t = .next u ∧
      t.busy = false ∧ t.status = .ok ∧ u.rsp = s.rsp ∧ u.rxq = [b]) := by
  have hl : linePhase s.phase = some .rxCollect := by rw [hp]; rfl
  obtain ⟨hb, hde, -⟩ := hs.receiving hp rfl
  refine ⟨?_, deadline_wins hb hde hp hq (collect_expires hl ht le_rfl hq) b⟩
  have hrun := drive_delivery (b := b) (es := []) hb hde (.inr ⟨hl, ht⟩) hq
  have hle : (storeReceived b [] s).rsp.length ≤ s.cfg.rxCap := by
    simpa using (hs.collecting hl).2
  obtain hroom | hfull := Nat.lt_or_eq_of_le hle
  · rw [afterByte_room hroom] at hrun
    exact ⟨_, hrun, rfl, rfl, iff_of_true hb hroom⟩
  · rw [afterByte_full hfull] at hrun
    refine ⟨_, hrun.trans (drive_endTransport .ok (by simp [hp]) hde), rfl, rfl, ?_⟩
    exact iff_of_false (by simp) hfull.not_lt

/-! ## A transmission and its budget -/

theorem lineStep_txWrite_room (hi : i < s.req.length) (hroom : s.txRoom = true) :
    lineStep (.txWrite i) s = enter (.txWrite (i + 1)) (uartWrite (byteAt s.req i) s) := by
  simp [lineStep, writePhase, hi, hroom]

theorem lineStep_txWaitTc_empty (hq : s.txq = []) (hr : s.txsr = none) :
    lineStep .txWaitTc s = enter .txHold { s with timers := { s.timers with txBudget := none } } := by
  simp [lineStep, waitTcPhase, uartTc, hq, hr]

/-- A `TRANSMIT` that drives the line is busy, and is not exchanging. -/
theorem State.Inv.transmitting (h : s.Inv) (hp : s.phase = .transport p) (hd : p.drives = true)
    (hop : opField s.cmd = 0x1#4) : s.busy = true ∧ s.de = true ∧ exchanging s = false :=
  ⟨h.busy_iff.mpr (by simp [hp]), h.de_eq.trans (by rw [hp]; exact hd),
    by simp [exchanging_alone (s := s) (by simp [hp]), hop]⟩

/-- On the tick the budget of the writes runs out (R221). -/
theorem txWrite_coincidence (hs : s.Inv) (hop : opField s.cmd = 0x1#4) (hp : s.phase = .transport (.txWrite i))
    (hi : i < s.req.length) (ht : s.timers.txBudget = some s.now) (hroom : s.txRoom = false) :
    (∃ t, drive [.uartRoom true, .sequencer] s = .next t ∧ t.busy = true ∧ t.de = true ∧
      t.phase = .transport (.txWrite (i + 1)) ∧ t.txq = s.txq ++ [byteAt s.req i] ∧ t.trace = s.trace) ∧
    (∃ t u, drive [.sequencer] s = .next t ∧ perform (.uartRoom true) t = .next u ∧ t.busy = false ∧
      t.status = .txError ∧ t.de = false ∧ u.txq = [] ∧ t.trace = s.trace ++ [(.deDown, s.now)]) := by
  have hl : linePhase s.phase = some (.txWrite i) := by rw [hp]; rfl
  obtain ⟨hb, hde, hx⟩ := hs.transmitting hp rfl hop
  constructor
  · have hrun : drive [.uartRoom true, .sequencer] s =
        drive [] (enter (.txWrite (i + 1)) (uartWrite (byteAt s.req i) { s with txRoom := true })) := by
      rw [drive_uartRoom hb, drive_sequencer (p := .txWrite i) (by exact hb) (by exact hl),
        lineStep_txWrite_room (by exact hi) rfl]
    exact ⟨_, hrun, hb, hde, by simp [hp], rfl, rfl⟩
  · have hexp : expired s.timers.txBudget s.now = true := expired_iff.mpr ⟨_, ht, le_rfl⟩
    have hrun : drive [.sequencer] s = drive [] (abortTransmit s) := by
      rw [drive_sequencer hb hl, lineStep_txWrite_expired hi hroom hexp]
    rw [abortTransmit_transmit hp hx hde] at hrun
    exact ⟨_, _, hrun, rfl, rfl, rfl, rfl, rfl, rfl⟩

/-- On the tick the budget of `TX_WAIT_TC` runs out (R137, R221). -/
theorem txWaitTc_coincidence (hs : s.Inv) (hop : opField s.cmd = 0x1#4) (hp : s.phase = .transport .txWaitTc)
    (ht : s.timers.txBudget = some s.now) (hq : s.txq = []) (hr : s.txsr = some b) :
    (∃ t, drive [.uartShift, .sequencer] s = .next t ∧ t.busy = true ∧ t.phase = .transport .txHold ∧
      t.de = true ∧ t.trace = s.trace ++ [(.tx b, s.now)]) ∧
    (∃ t, drive [.uartShift, .timerFirst] s = .next t ∧ t.busy = false ∧ t.status = .txError ∧
      t.de = false ∧ t.trace = s.trace ++ [(.tx b, s.now), (.deDown, s.now)]) := by
  have hl : linePhase s.phase = some .txWaitTc := by rw [hp]; rfl
  obtain ⟨hb, hde, hx⟩ := hs.transmitting hp rfl hop
  constructor
  · have hrun : drive [.uartShift, .sequencer] s = drive [] (enter .txHold { uartShift s with
        timers := { (uartShift s).timers with txBudget := none } }) := by
      rw [drive_uartShift hb, drive_sequencer (p := .txWaitTc) (by simpa using hb) (by simpa using hl),
        lineStep_txWaitTc_empty (by simpa using hq) (by rw [uartShift_of_byte hr]; rfl)]
    exact ⟨_, hrun, by simpa using hb, by simp [hp], by simpa using hde, by simp [uartShift_of_byte hr]⟩
  · have hcoin : budgetCoincides (uartShift s) = true := by
      rw [budgetCoincides_iff, uartShift_of_byte hr]
      exact ⟨hl, by simp [uartTc, hq], ht, rfl⟩
    have hrun : drive [.uartShift, .timerFirst] s = drive [] (abortTransmit (uartShift s)) := by
      rw [drive_uartShift hb, drive_cons (by simpa using hb) rfl, timerFirstStep, if_pos hcoin]
    rw [abortTransmit_transmit (p := .txWaitTc) (by simpa using hp) (by simpa [exchanging] using hx)
      (by simpa using hde)] at hrun
    exact ⟨_, hrun, rfl, rfl, rfl, by simp [uartShift_of_byte hr]⟩

/-- Settles O36: the order of the moves, and the draw `timerFirst`, decide each coincidence. -/
theorem coincidenceHasBothOutcomes : Obligations.CoincidenceHasBothOutcomes :=
  ⟨fun _ b hs _ hp ht hq => waitFirst_coincidence hs hp ht hq b,
   fun _ b hs _ hp ht hq => collect_coincidence hs hp ht hq b,
   fun _ _ hs hop hp hi ht hroom => txWrite_coincidence hs hop hp hi ht hroom,
   fun _ _ hs hop hp ht hq hr => txWaitTc_coincidence hs hop hp ht hq hr⟩

end Sys2Proof.Machine
end

section
/-! # The frame codec

Each command of the codec runs in the step that accepts it; the checkers' comparisons of single bytes are comparisons of
the slices of the two frames. -/

namespace Sys2Proof.Machine

variable {s : State}

/-- A command whose body takes the exit actions, with the line released, ends in the step that accepts it (R185, R222).
The body and the state it computes are found from the goal, so its hypotheses are given by `by exact`. -/
theorem runCommand_of_finish {w : CommandWord} {body : State → State} {c : Status} {u : State} (hs : s.ready)
    (hbody : body (accept w s) = finish c u) (hde : u.de = false) :
    runCommand w body s =
      .next { u with status := c, phase := .idle, busy := false, done := true, timers := {}, script := s.script } := by
  rw [runCommand_ready hs, hbody, drive_idle (finish_busy ..), finish_of_released hde]

/-! ## The builders -/

theorem hi8_coilAddress (ch : Word) : hi8 (coilAddress ch) = BitVec.ofNat 8 ((ch.toNat - 1) / 256) := by
  have hlt := ch.isLt
  apply BitVec.eq_of_toNat_eq
  simp only [hi8, coilAddress, BitVec.extractLsb'_toNat, BitVec.toNat_ofNat, Nat.shiftRight_eq_div_pow]
  omega

theorem lo8_coilAddress (ch : Word) : lo8 (coilAddress ch) = BitVec.ofNat 8 ((ch.toNat - 1) % 256) := by
  apply BitVec.eq_of_toNat_eq
  simp [lo8, coilAddress]

/-- The body of a write-coil request, byte by byte (R160). -/
theorem writeCoilBody_eq (c : Config) (st : Bool) (ch : Word) :
    writeCoilBody c st ch =
      [c.slaveAddr, 0x05#8, BitVec.ofNat 8 ((ch.toNat - 1) / 256), BitVec.ofNat 8 ((ch.toNat - 1) % 256),
        if st then 0xFF#8 else 0x00#8, 0x00#8] := by
  rw [writeCoilBody, hi8_coilAddress, lo8_coilAddress]
  cases st <;> rfl

/-- Settles O15: a channel in range has its request built, any other has none. -/
theorem buildWriteCoilRequest : Obligations.BuildWriteCoilRequest := by
  intro s st ch hs
  refine ⟨crc16 (writeCoilBody s.cfg st ch), ?_⟩
  rw [exec, execBuildWc]
  by_cases hch : 1 ≤ ch.toNat ∧ ch.toNat ≤ s.cfg.relayCount
  · rw [if_pos hch, ← writeCoilBody_eq]
    exact (runCommand_of_finish hs (by exact if_pos (decide_eq_true hch)) (by exact hs.de)).trans (by rfl)
  · rw [if_neg hch]
    have hno : ¬ channelOk s.cfg ch = true := ne_true_of_eq_false (decide_eq_false hch)
    exact (runCommand_of_finish hs (by exact if_neg hno) (by exact hs.de)).trans (by rfl)

/-- Settles O16: the body is a constant but for the slave address. -/
theorem buildReadCoilsRequest : Obligations.BuildReadCoilsRequest := by
  intro s st ch hs
  refine ⟨crc16 (readCoilsBody s.cfg), ?_⟩
  rw [exec, execBuildRc, runCommand_finish hs hs.de]
  rfl

/-! ## The checkers as commands -/

/-- What stands as an operand of eight bytes is `REQ` itself: an over-long operand is longer (R29, C12 (b)). -/
theorem requestOperand_of_frame (hs : s.ready) (h : (requestOperand s).length = 8) : requestOperand s = s.req := by
  obtain ⟨hinv, -, hc⟩ := hs
  obtain ⟨-, -, -, -, -, -, -, hcap⟩ := Config.bounds_of_ok hc
  cases ho : s.reqOver with
  | none => rw [requestOperand, ho, Option.getD_none]
  | some bytes =>
    have hlong := hinv.over_long bytes ho
    rw [requestOperand, ho, Option.getD_some] at h
    omega

/-- `VALIDATE_WC` ends with its verdict and writes the accumulator beside it (R172). -/
theorem exec_validateWc (hs : s.ready) (st : Bool) (ch : Word) :
    exec (.validateWc st ch) s =
      .next { s.ended (commandWord 0x6#4 st ch) (validateWriteCoil (requestOperand s) s.rsp).status with
                crc := (validateWriteCoil (requestOperand s) s.rsp).crc.getD s.crc } := by
  rw [exec, execValidateWc, runCommand_finish hs hs.de]
  rfl

/-- `PARSE_RC` ends with its verdict and writes the accumulator and `RES8` beside it, which is the bitmask when it
accepts (R178). -/
theorem exec_parseRc (hs : s.ready) (st : Bool) (ch : Word) :
    ∃ mask n,
      exec (.parseRc st ch) s =
        .next { s.ended (commandWord 0x7#4 st ch) (parseReadCoils (requestOperand s) s.rsp).status with
                  crc := (parseReadCoils (requestOperand s) s.rsp).crc.getD s.crc, res8 := mask, draws := n } ∧
      ((parseReadCoils (requestOperand s) s.rsp).status = .ok → mask = coilBitmask s.rsp) := by
  rw [exec, execParseRc]
  by_cases hv : (parseReadCoils (requestOperand s) s.rsp).status = .ok
  · refine ⟨coilBitmask s.rsp, s.draws, ?_, fun _ => rfl⟩
    exact (runCommand_of_finish hs (by exact congrArg (finish _) (if_pos hv)) (by exact hs.de)).trans (by rfl)
  · refine ⟨Config.freeRes8 s.draws, s.draws + 1, ?_, fun h => absurd h hv⟩
    exact (runCommand_of_finish hs (by exact congrArg (finish _) (if_neg hv)) (by exact hs.de)).trans (by rfl)

/-! ## The checks on slices -/

/-- A slice within a sequence is the list of its bytes. -/
theorem slice_eq_map_byteAt {l : List Byte} {n k : Nat} (h : n + k ≤ l.length) :
    (l.drop n).take k = (List.range k).map fun i => byteAt l (n + i) := by
  apply List.ext_getElem
  · rw [List.length_take, List.length_drop, List.length_map, List.length_range]
    omega
  · intro i hi _
    simp only [List.length_take, List.length_drop] at hi
    simp [byteAt, List.getElem?_eq_getElem (show n + i < l.length by omega)]

theorem slice_two {l : List Byte} {n : Nat} (h : n + 2 ≤ l.length) :
    (l.drop n).take 2 = [byteAt l n, byteAt l (n + 1)] := slice_eq_map_byteAt h

theorem slice_four {l : List Byte} {n : Nat} (h : n + 4 ≤ l.length) :
    (l.drop n).take 4 = [byteAt l n, byteAt l (n + 1), byteAt l (n + 2), byteAt l (n + 3)] := slice_eq_map_byteAt h

/-- The two bytes at offset n are not those given: the CRC bytes, or the header (R174, R175, R180, R181). -/
theorem bytes_ne_iff {r : List Byte} {n : Nat} (h : n + 2 ≤ r.length) (lo hi : Byte) :
    (byteAt r n ≠ lo ∨ byteAt r (n + 1) ≠ hi) ↔ (r.drop n).take 2 ≠ [lo, hi] := by
  simp only [slice_two h, ne_eq, List.cons.injEq, and_true, not_and_or]

/-- The header of a response is not that of the request (R175, R181). -/
theorem header_ne_iff {q r : List Byte} (hq : 2 ≤ q.length) (hr : 2 ≤ r.length) :
    (byteAt r 0 ≠ byteAt q 0 ∨ byteAt r 1 ≠ byteAt q 1) ↔ r.take 2 ≠ q.take 2 := by
  have hq2 := slice_two (l := q) (n := 0) (by omega)
  rw [List.drop_zero] at hq2
  rw [hq2]
  exact bytes_ne_iff (n := 0) (by omega) _ _

/-- The address and value fields of a response are not those of the request (R176). -/
theorem echo_ne_iff {q r : List Byte} (hq : 6 ≤ q.length) (hr : 6 ≤ r.length) :
    (byteAt r 2 ≠ byteAt q 2 ∨ byteAt r 3 ≠ byteAt q 3 ∨ byteAt r 4 ≠ byteAt q 4 ∨ byteAt r 5 ≠ byteAt q 5) ↔
      (r.drop 2).take 4 ≠ (q.drop 2).take 4 := by
  simp only [slice_four (n := 2) hq, slice_four (n := 2) hr, ne_eq, List.cons.injEq, and_true, not_and_or]

/-- The verdict of `VALIDATE_WC`, its comparisons made slice by slice (R172). -/
theorem validateWriteCoil_status (q r : List Byte) :
    (validateWriteCoil q r).status =
      if q.length ≠ 8 then .invalidParameter
      else if r.length < 8 then .tooShort
      else if (r.drop 6).take 2 ≠ [lo8 (crc16 (r.take 6)), hi8 (crc16 (r.take 6))] then .crcMismatch
      else if r.take 2 ≠ q.take 2 then .headerMismatch
      else if (r.drop 2).take 4 ≠ (q.drop 2).take 4 then .headerMismatch
      else .ok := by
  by_cases hq : q.length = 8
  · by_cases hr : r.length < 8
    · simp [validateWriteCoil, hq, hr]
    · simp only [validateWriteCoil, hq, hr, apply_ite Verdict.status, ← bytes_ne_iff (r := r) (n := 6) (by omega),
        header_ne_iff (q := q) (r := r) (by omega) (by omega), echo_ne_iff (q := q) (r := r) (by omega) (by omega)]
  · simp [validateWriteCoil, hq]

/-- The verdict of `PARSE_RC`, its comparisons made slice by slice (R178). -/
theorem parseReadCoils_status (q r : List Byte) :
    (parseReadCoils q r).status =
      if q.length ≠ 8 then .invalidParameter
      else if r.length < 5 then .tooShort
      else if r.drop (r.length - 2) ≠
          [lo8 (crc16 (r.take (r.length - 2))), hi8 (crc16 (r.take (r.length - 2)))] then .crcMismatch
      else if r.take 2 ≠ q.take 2 then .headerMismatch
      else .ok := by
  by_cases hq : q.length = 8
  · by_cases hr : r.length < 5
    · simp [parseReadCoils, hq, hr]
    · have hlast : (r.drop (r.length - 2)).take 2 = r.drop (r.length - 2) :=
        List.take_of_length_le (by rw [List.length_drop]; omega)
      have hcrc := fun lo hi => bytes_ne_iff (r := r) (n := r.length - 2) (by omega) lo hi
      rw [hlast, show r.length - 2 + 1 = r.length - 1 by omega] at hcrc
      simp only [parseReadCoils, hq, hr, apply_ite Verdict.status, hcrc,
        header_ne_iff (q := q) (r := r) (by omega) (by omega)]
  · simp [parseReadCoils, hq]

/-! ## The statements of the checkers -/

/-- Settles O18: the verdict slice by slice; an operand that passes the length check is `REQ`. -/
theorem validateWriteCoilVerdict : Obligations.ValidateWriteCoilVerdict := by
  intro s st ch hs
  refine ⟨_, _, exec_validateWc hs st ch, ?_⟩
  rw [validateWriteCoil_status]
  by_cases hq : (requestOperand s).length = 8
  · rw [requestOperand_of_frame hs hq]
    dsimp only
    split_ifs <;> rfl
  · simp only [ne_eq, hq, not_false_eq_true, if_true]

/-- A byte within a sequence is the one found there. -/
theorem getElem?_eq_byteAt {l : List Byte} {n : Nat} (h : n < l.length) : l[n]? = some (byteAt l n) := by
  simp [byteAt, h]

/-- Settles O20: the verdict slice by slice; an accepted response has five bytes at least, so byte 3 is there. -/
theorem parseReadCoilsVerdict : Obligations.ParseReadCoilsVerdict := by
  intro s st ch hs
  obtain ⟨mask, n, hexec, hmask⟩ := exec_parseRc hs st ch
  refine ⟨_, _, mask, n, hexec, ?_⟩
  rw [parseReadCoils_status] at hmask ⊢
  by_cases hq : (requestOperand s).length = 8
  · rw [requestOperand_of_frame hs hq] at hmask ⊢
    dsimp only
    split_ifs at hmask ⊢ with _ hlen
    · rfl
    · rfl
    · rfl
    · rfl
    · rw [hmask rfl]
      exact ⟨rfl, getElem?_eq_byteAt (by omega)⟩
  · simp only [ne_eq, hq, not_false_eq_true, if_true]

/-- Settles O21: neither length nor byte count is looked at beyond the five bytes, so the verdict is `OK`, and byte 3 is
the CRC low byte or the first data byte. -/
theorem parseReadCoilsHazards : Obligations.ParseReadCoilsHazards := by
  intro s st ch a f n rest hs hover hlen hhdr hrsp
  obtain ⟨mask, k, hexec, hmask⟩ := exec_parseRc hs st ch
  have hok : (parseReadCoils (requestOperand s) s.rsp).status = .ok := by
    have hsize : ([a, f, n] ++ rest).length = s.rsp.length - 2 := by simp [hrsp]
    have hbody : s.rsp.take (s.rsp.length - 2) = [a, f, n] ++ rest := by rw [hrsp]; exact take_withCrc _ (by simp)
    have hcrc : s.rsp.drop (s.rsp.length - 2) = [lo8 (crc16 ([a, f, n] ++ rest)), hi8 (crc16 ([a, f, n] ++ rest))] := by
      rw [← hsize, hrsp, withCrc, List.drop_left]
    have hreq : requestOperand s = s.req := by rw [requestOperand, hover, Option.getD_none]
    have hlong : ¬ s.rsp.length < 5 := by simp [hrsp]
    have htake : s.rsp.take 2 = s.req.take 2 := by rw [hhdr, hrsp]; rfl
    rw [parseReadCoils_status, hreq, if_neg (not_not_intro hlen), if_neg hlong, hbody, if_neg (not_not_intro hcrc),
      if_neg (not_not_intro htake)]
  refine ⟨_, hexec, hok, ?_, ?_⟩
  · rintro rfl
    rw [hmask hok, coilBitmask, hrsp]
    exact byteAt_withCrc_lo [a, f, n] rfl
  · rintro b bs rfl
    rw [hmask hok, coilBitmask, hrsp]
    rfl

/-! ## The echo -/

/-- What a well-formed frame of eight bytes is: its last two bytes are the CRC of the first six (R75). -/
theorem frameCrcOk_iff_of_length {f : List Byte} (h : f.length = 8) :
    frameCrcOk f = true ↔ f.drop 6 = [lo8 (crc16 (f.take 6)), hi8 (crc16 (f.take 6))] := by
  rw [← List.append_right_inj (f.take 6), List.take_append_drop]
  simp [frameCrcOk, h, withCrc]

/-- The first eight bytes of a response are a well-formed frame exactly when its CRC check passes (R174). -/
theorem frameCrcOk_take_iff {r : List Byte} (h : 8 ≤ r.length) :
    frameCrcOk (r.take 8) = true ↔ (r.drop 6).take 2 = [lo8 (crc16 (r.take 6)), hi8 (crc16 (r.take 6))] := by
  rw [frameCrcOk_iff_of_length (List.length_take_of_le h), List.drop_take, List.take_take]
  rfl

/-- What `VALIDATE_WC` has checked when it accepts (R172). -/
theorem validateWriteCoil_ok {q r : List Byte} (h : (validateWriteCoil q r).status = .ok) :
    q.length = 8 ∧ 8 ≤ r.length ∧ frameCrcOk (r.take 8) = true ∧ r.take 2 = q.take 2 ∧
    (r.drop 2).take 4 = (q.drop 2).take 4 := by
  rw [validateWriteCoil_status] at h
  split_ifs at h with hq hr hcrc hhdr hecho
  have hlen : 8 ≤ r.length := Nat.le_of_not_lt hr
  exact ⟨not_not.mp hq, hlen, (frameCrcOk_take_iff hlen).mpr (not_not.mp hcrc), not_not.mp hhdr, not_not.mp hecho⟩

/-- Two frames of eight bytes, both well-formed, with the same header and the same echo are the same. -/
theorem frame_ext {f g : List Byte} (hf : f.length = 8) (hg : g.length = 8) (hfc : frameCrcOk f = true)
    (hgc : frameCrcOk g = true) (hhdr : f.take 2 = g.take 2) (hecho : (f.drop 2).take 4 = (g.drop 2).take 4) :
    f = g := by
  have hbody : f.take 6 = g.take 6 := by
    rw [show 6 = 2 + 4 from rfl, List.take_add, List.take_add, hhdr, hecho]
  rw [← List.take_append_drop 6 f, ← List.take_append_drop 6 g, (frameCrcOk_iff_of_length hf).mp hfc,
    (frameCrcOk_iff_of_length hg).mp hgc, hbody]

/-- Settles O19: the echo is the last check; the CRC fixes what the header and the echo leave open. -/
theorem acceptedWriteResponseIsTheEcho : Obligations.AcceptedWriteResponseIsTheEcho := by
  refine ⟨fun s t st ch hs ht hop hq hr hcrc hhdr hecho => ?_, fun s t st ch hs ht hok hreq => ?_⟩
  · cases (exec_validateWc hs st ch).symm.trans ht
    show (validateWriteCoil (requestOperand s) s.rsp).status = .headerMismatch
    rw [validateWriteCoil_status, hop, if_neg (not_not_intro hq), if_neg (Nat.not_lt.mpr hr),
      if_neg (not_not_intro ((frameCrcOk_take_iff hr).mp hcrc)), if_neg (not_not_intro hhdr), if_pos hecho]
  · cases (exec_validateWc hs st ch).symm.trans ht
    obtain ⟨hq, hr, hcrc, hhdr, hecho⟩ := validateWriteCoil_ok hok
    have hop := requestOperand_of_frame hs hq
    rw [hop] at hq hhdr hecho
    refine frame_ext (List.length_take_of_le hr) hq hcrc hreq ?_ ?_
    · rw [List.take_take]
      exact hhdr
    · rw [List.drop_take, List.take_take]
      exact hecho

end Sys2Proof.Machine
end

section
/-! # What the transactions leave unchanged

A transaction in `BUILDING` is bound to the request it will build, and from there on to the `REQ` it has: with that
reading (`State.bound`) every move keeps the same registers (`State.kept`). -/

namespace Sys2Proof.Machine

variable {s t u : State} {p : LinePhase}

/-- The registers that no part of a transaction writes once its request is built: `REQ`, the command and its timeout,
the configuration and `RES16`, and for `WRITE_COIL` also `RES8` and the free values (R191, R200). -/
def State.kept (s : State) : List Byte × CommandWord × Nat × Config × Word × Option (Byte × Nat) :=
  (s.req, s.cmd, s.tmo, s.cfg, s.res16, if reading s then none else some (s.res8, s.draws))

/-- `REQ` as `BUILDING` leaves it (R192, R200). -/
def State.builtReq (s : State) : List Byte :=
  if reading s then withCrc (readCoilsBody s.cfg)
  else if channelOk s.cfg (chanField s.cmd) then
    withCrc (writeCoilBody s.cfg (stateField s.cmd) (chanField s.cmd))
  else s.req

/-- `s` with the `REQ` its transaction has or is about to build. -/
def State.bound (s : State) : State := { s with req := if s.phase = .building then s.builtReq else s.req }

theorem bound_of_building (h : s.phase = .building) : s.bound = { s with req := s.builtReq } := by
  rw [State.bound, if_pos h]

theorem bound_of_built (h : s.phase ≠ .building) : s.bound = s := by
  rw [State.bound, if_neg h]

/-- `t` is `s` after a part of a transaction whose request is built. -/
def Continues (s t : State) : Prop := t.phase ≠ .building ∧ t.kept = s.kept

theorem Continues.after (h : Continues u t) (hk : u.kept = s.kept) : Continues s t := ⟨h.1, h.2.trans hk⟩

theorem Continues.bound (h : Continues s t) : t.bound.kept = s.kept := by
  rw [bound_of_built h.1, h.2]

/-! ## The parts of a transaction -/

theorem kept_finish (c : Status) (s : State) : (finish c s).kept = s.kept := by
  simp [State.kept, reading]

theorem kept_lowerDe (s : State) : (lowerDe s).kept = s.kept := by
  simp [State.kept, reading]

theorem kept_scramble (h : reading s = true) : (scrambleRes8 s).kept = s.kept := by
  have h' : reading (scrambleRes8 s) = true := h
  simp [State.kept, h, h']

theorem kept_attemptSucceeds (s : State) : (attemptSucceeds s).kept = s.kept := by
  have h : reading (attemptSucceeds s) = reading s := rfl
  rw [State.kept, State.kept, h]
  cases hr : reading s with
  | true => rfl
  | false => simp [attemptSucceeds, hr]

theorem continues_finish (c : Status) (s : State) : Continues s (finish c s) := ⟨by simp, kept_finish c s⟩

theorem continues_attemptFails (s : State) : Continues s (attemptFails s) := by
  unfold attemptFails
  split <;> exact ⟨Phase.noConfusion, rfl⟩

theorem continues_concludeAttempt (c : Status) (s : State) : Continues s (concludeAttempt c s) := by
  unfold concludeAttempt
  dsimp only
  split_ifs
  · exact ⟨Phase.noConfusion, kept_attemptSucceeds _⟩
  · exact (continues_attemptFails _).after rfl
  · exact continues_attemptFails s

theorem continues_endTransport (c : Status) (s : State) : Continues s (endTransport c s) := by
  obtain ⟨_, _, h⟩ | ⟨_, h⟩ := endTransport_cases c s <;> rw [h]
  · exact continues_concludeAttempt c s
  · exact continues_finish c s

theorem continues_enter (p : LinePhase) (s : State) : Continues s (enter p s) := by
  refine ⟨?_, rfl⟩
  rw [enter_phase]
  split <;> exact Phase.noConfusion

theorem continues_failTransmit (s : State) : Continues s (failTransmit s) := by
  unfold failTransmit
  split
  · exact (continues_endTransport _ _).after rfl
  · exact continues_endTransport _ s

theorem continues_abortTransmit (s : State) : Continues s (abortTransmit s) :=
  (continues_failTransmit _).after (kept_lowerDe _)

theorem continues_startTransmit (s : State) : Continues s (startTransmit s) := by
  unfold startTransmit
  split
  · exact continues_failTransmit s
  · exact continues_enter _ s

theorem continues_takeByte (b : Byte) (rest : List Byte) (s : State) : Continues s (takeByte b rest s) := by
  unfold takeByte
  dsimp only
  split
  · exact (continues_endTransport _ _).after rfl
  · exact (continues_enter _ _).after rfl

theorem continues_beginAttempt (n : Nat) (s : State) : Continues s (beginAttempt n s) :=
  (continues_startTransmit _).after rfl

/-- A state with the same operands and `CMD` keeps what a transaction keeps. -/
theorem kept_of_operands (ho : u.operands = s.operands) (hc : u.cmd = s.cmd) : u.kept = s.kept := by
  simp only [State.operands, Prod.mk.injEq] at ho
  obtain ⟨hreq, -, -, hres8, hres16, -, -, hdraws, hcfg, htmo, -⟩ := ho
  rw [State.kept, State.kept, reading, reading, hreq, hc, htmo, hcfg, hres16, hres8, hdraws]

theorem Sends.continues (h : Sends p s t) (hs : s.phase ≠ .building) : Continues s t := by
  cases h with
  | stay => exact ⟨hs, rfl⟩
  | enter _ hu => exact (continues_enter _ _).after (kept_of_operands hu.operands hu.control.cmd)
  | abort => exact continues_abortTransmit s
  | release =>
    unfold releasePhase
    split
    · exact (continues_enter _ _).after (kept_lowerDe s)
    · exact (continues_endTransport _ _).after (kept_lowerDe s)

theorem Takes.continues (h : Takes s t) (hs : s.phase ≠ .building) : Continues s t := by
  cases h with
  | stay | start => exact ⟨hs, rfl⟩
  | take => exact continues_takeByte _ _ s
  | ended => exact continues_endTransport _ s

theorem continues_lineStep (p : LinePhase) (hs : s.phase ≠ .building) : Continues s (lineStep p s) := by
  cases hp : p.sending with
  | true => exact (sends_lineStep hp s).continues hs
  | false => exact (takes_lineStep hp s).continues hs

/-- `BUILDING` writes the request and begins the first attempt, or refuses the channel (R192, R200). -/
theorem continues_buildingPhase (s : State) : Continues { s with req := s.builtReq } (buildingPhase s) := by
  unfold buildingPhase State.builtReq
  split_ifs
  · exact (continues_beginAttempt 1 _).after rfl
  · exact (continues_beginAttempt 1 _).after rfl
  · exact continues_finish _ s

/-- Every step of the sequencer keeps the registers, the request bound in `BUILDING` among them. -/
theorem sequencerStep_bound (s : State) : (sequencerStep s).bound.kept = s.bound.kept := by
  by_cases hb : s.phase = .building
  · rw [bound_of_building hb, sequencerStep, hb]
    exact (continues_buildingPhase s).bound
  · rw [bound_of_built hb]
    refine Continues.bound ?_
    have stay : Continues s s := ⟨hb, rfl⟩
    cases hp : s.phase with
    | building => exact absurd hp hb
    | idle | compute => rw [sequencerStep, hp]; exact stay
    | transport p | attempting p => rw [sequencerStep, hp]; exact continues_lineStep p hb
    | retrying =>
      rw [sequencerStep, hp]
      dsimp only
      split
      · exact continues_beginAttempt _ s
      · exact stay
    | succeeded => rw [sequencerStep, hp]; exact continues_finish _ s
    | exhausted =>
      rw [sequencerStep, hp]
      dsimp only
      unfold exhaustedPhase
      split
      · exact (continues_finish _ _).after (kept_scramble ‹_›)
      · exact continues_finish _ s

/-! ## The run of a transaction -/

theorem perform_bound {e : Event} (he : e.lineSide = true) (ht : perform e s = .next t) :
    t.bound.kept = s.bound.kept :=
  perform_keeps (f := fun v => v.bound.kept) he ht (fun _ _ _ _ _ _ _ => rfl)
    (fun n => sequencerStep_bound { s with now := s.now + n })
    (fun hw => by
      have hs : s.phase ≠ .building := fun h => by rw [h] at hw; cases hw
      rw [bound_of_built hs]
      exact (continues_abortTransmit s).bound)

/-- What keeping the registers comes to. -/
theorem kept_inj (h : t.kept = s.kept) :
    t.req = s.req ∧ t.cmd = s.cmd ∧ t.tmo = s.tmo ∧ t.cfg = s.cfg ∧ t.res16 = s.res16 ∧
    (reading s = false → t.res8 = s.res8 ∧ t.draws = s.draws) := by
  simp only [State.kept, Prod.mk.injEq] at h
  obtain ⟨hreq, hcmd, htmo, hcfg, hres16, hres8⟩ := h
  refine ⟨hreq, hcmd, htmo, hcfg, hres16, fun hr => ?_⟩
  have hr' : reading t = false := by rw [reading, hcmd]; exact hr
  simpa [hr, hr'] using hres8

/-- What a transaction leaves at every moment of its run, and the `REQ` it leaves when it has ended. -/
theorem transaction_leaves {i : Instr} {w : CommandWord} (hi : encode i = .command w)
    (hbegin : ∀ v, Begins i v { v with phase := .building }) (hs : s.ready)
    (hes : s.script.all Event.lineSide = true)
    (ht : runCommand w (fun v => { v with phase := .building }) s = .next t) :
    (t.busy = false → t.req = (accept w s).builtReq) ∧ t.cmd = w ∧ t.tmo = s.tmoIn ∧ t.cfg = s.cfg ∧
    t.res16 = s.res16 ∧ (opField w ≠ 0x9#4 → t.res8 = s.res8 ∧ t.draws = s.draws) := by
  obtain ⟨-, -, hinv, -, hkept⟩ := runCommand_course hi hbegin hs hes ht
    (fun _ v => v.bound.kept = State.kept { accept w s with req := (accept w s).builtReq }) (fun _ _ _ h => h)
    rfl (fun _ _ _ _ he _ _ _ h hv => (perform_bound he hv).trans h)
  obtain ⟨hreq, hcmd, htmo, hcfg, hres16, hres8⟩ := kept_inj hkept
  refine ⟨fun hb => ?_, hcmd, htmo, hcfg, hres16, fun hop => hres8 (beq_false_of_ne hop)⟩
  have hidle : t.phase ≠ .building := by rw [hinv.idle_of_not_busy hb]; exact Phase.noConfusion
  rwa [bound_of_built hidle] at hreq

/-- The request of a `WRITE_COIL`: the builder's, unless it refuses the channel (R191, R192). -/
theorem builtReq_writeCoil (s : State) (st : Bool) (ch : Word) :
    (accept (commandWord 0x8#4 st ch) s).builtReq =
      if 1 ≤ ch.toNat ∧ ch.toNat ≤ s.cfg.relayCount then withCrc (writeCoilBody s.cfg st ch) else s.req := by
  simp [State.builtReq, reading, channelOk]

/-- The request of a `READ_COILS` (R200). -/
theorem builtReq_readCoils (s : State) (st : Bool) (ch : Word) :
    (accept (commandWord 0x9#4 st ch) s).builtReq = withCrc (readCoilsBody s.cfg) := by
  simp [State.builtReq, reading]

/-- Settles O29: the run keeps what acceptance latched, and the request is built from it once. -/
theorem transactionFrame : Obligations.TransactionFrame := by
  intro s t st ch hs hes
  refine ⟨fun ht => ?_, fun ht => ?_⟩
  · obtain ⟨hreq, hcmd, htmo, hcfg, hres16, hres8⟩ :=
      transaction_leaves (i := .writeCoil st ch) rfl (fun _ => .writeCoil) hs hes ht
    obtain ⟨hmask, hdraws⟩ := hres8 (by simp)
    exact ⟨hres16, hmask, hdraws, hcfg, htmo, hcmd, fun hb => (hreq hb).trans (builtReq_writeCoil s st ch)⟩
  · obtain ⟨hreq, hcmd, htmo, hcfg, hres16, -⟩ :=
      transaction_leaves (i := .readCoils st ch) rfl (fun _ => .readCoils) hs hes ht
    exact ⟨hres16, hcfg, htmo, hcmd, fun hb => (hreq hb).trans (builtReq_readCoils s st ch)⟩

end Sys2Proof.Machine
end

section
/-! # An attempt run to its end

A transaction on a scripted line: its request is built, and each of its attempts is an exchange whose answer the checker
accepts, or that fails and is followed by the next attempt or by the end of the transaction (R191 to R205). -/

namespace Sys2Proof.Machine

variable {s v x : State} {es : List Event} {gap n : Nat} {answer : List Byte}

/-! ## An exchange that may go unanswered -/

/-- The tick at which an exchange of eight bytes begun at tick `t` ends: with its answer, or, with no byte, by the
timeout of an attempt. -/
def attemptEnd (c : Config) (gap t : Nat) (answer : List Byte) : Nat :=
  if answer = [] then sendEnd c gap t 8 + c.attemptTimeout else answerEnd c gap (sendEnd c gap t 8) answer.length

/-- How that exchange ends. -/
def exchangeStatus (answer : List Byte) : Status := if answer = [] then .rxTimeout else .ok

/-- What that exchange leaves of the state `v` in which it begins. -/
def State.exchanged (v : State) (gap : Nat) (answer : List Byte) : State :=
  { v with
    txRoom := true, rxq := [], rsp := answer, rspWritten := true, timers := {},
    now := attemptEnd v.cfg gap v.now answer,
    trace := v.trace ++ sendTrace v.cfg gap v.rxq.length v.now v.req ++ rxTrace gap (sendEnd v.cfg gap v.now 8) answer }

/-- An exchange of eight bytes with the timeout of an attempt, answered or not, alone or inside an attempt (R150,
R193). -/
theorem drive_attemptScript (hv : v.Flushes) (hx : exchanging v = true) (hlen : v.req.length = 8)
    (htmo : firstByteTimeout v = v.cfg.attemptTimeout) (hgap : answer ≠ [] → gap ≤ v.cfg.attemptTimeout)
    (hidle : answer ≠ [] → gap ≤ v.cfg.tIdle) (hcap : answer.length ≤ v.cfg.rxCap) :
    drive (attemptScript v.cfg gap answer ++ es) v =
      drive es (endTransport (exchangeStatus answer) (v.exchanged gap answer)) := by
  by_cases ha : answer = []
  · subst ha
    have hwait : (enter .rxWaitFirst (v.sent gap)).Awaits := ⟨hv.busy, hv.quiet.1, linePhase_enter _ _, rfl⟩
    have htmo' : firstByteTimeout (enter .rxWaitFirst (v.sent gap)) = firstByteTimeout v :=
      firstByteTimeout_within (p := .rxWaitFirst) (by rw [enter_eq]; rfl) rfl rfl
    rw [htmo] at htmo'
    have hsend := drive_sendScript (gap := gap) (es := silenceScript v.cfg.attemptTimeout ++ es) hv
    rw [hlen, if_pos hx] at hsend
    rw [attemptScript, if_pos rfl, List.append_assoc, hsend, ← htmo', drive_silenceScript hwait rfl, htmo', enter_eq]
    refine (congrArg (drive es) (endTransport_within .rxTimeout { v.sent gap with
      rsp := [], rspWritten := true, now := (v.sent gap).now + v.cfg.attemptTimeout } .rxWaitFirst {})).trans ?_
    simp [exchangeStatus, State.exchanged, State.sent, attemptEnd, rxTrace, hlen]
  · have hexch := drive_exchange (gap := gap) (es := es) hv hx (List.length_pos_of_ne_nil ha) hcap (htmo ▸ hgap ha)
      (hidle ha)
    rw [hlen] at hexch
    rw [attemptScript, if_neg ha, List.append_assoc, hexch]
    simp [exchangeStatus, State.exchanged, State.sent, State.answered, attemptEnd, ha, hlen]

/-! ## The checker's decision -/

/-- The checks of the response of a transaction: of `READ_COILS` if `reads`, else of `WRITE_COIL` (R172, R178). -/
def verdictOf (reads : Bool) (request rsp : List Byte) : Verdict :=
  if reads then parseReadCoils request rsp else validateWriteCoil request rsp

theorem attemptCheck_eq (s : State) : attemptCheck s = verdictOf (reading s) s.req s.rsp := rfl

/-- A response of no byte is never accepted (R173, R179). -/
theorem verdictOf_empty (reads : Bool) (q : List Byte) : (verdictOf reads q []).status ≠ .ok := by
  intro hok
  cases reads with
  | false =>
    obtain ⟨-, hlen, -⟩ := validateWriteCoil_ok hok
    cases hlen
  | true =>
    have hshort : ([] : List Byte).length < 5 := by decide
    change (parseReadCoils q []).status = .ok at hok
    rw [parseReadCoils_status, if_pos hshort] at hok
    split at hok <;> cases hok

theorem attemptCheck_empty (h : s.rsp = []) : (attemptCheck s).status ≠ .ok := by
  rw [attemptCheck_eq, h]
  exact verdictOf_empty _ _

/-- An answer the checker accepts: `SUCCEEDED` (R195). -/
theorem concludeAttempt_accepted (h : (attemptCheck s).status = .ok) :
    concludeAttempt (exchangeStatus s.rsp) s = attemptSucceeds (noteCrc (attemptCheck s) s) := by
  have hne : s.rsp ≠ [] := fun he => attemptCheck_empty he h
  rw [exchangeStatus, if_neg hne, concludeAttempt, if_pos rfl]
  exact if_pos h

/-- Silence, or an answer the checker refuses: the attempt has failed (R194). -/
theorem concludeAttempt_refused (h : (attemptCheck s).status ≠ .ok) :
    ∃ crc, concludeAttempt (exchangeStatus s.rsp) s = attemptFails { s with crc := crc } := by
  unfold concludeAttempt exchangeStatus
  by_cases hr : s.rsp = []
  · exact ⟨s.crc, by rw [if_pos hr, if_neg Status.noConfusion]⟩
  · exact ⟨(attemptCheck s).crc.getD s.crc, by simp only [hr, if_false, if_true, if_neg h]; rfl⟩

/-! ## The attempts -/

/-- Attempt `n` of the transaction in `v` at its flush (R191, R193). -/
def State.attempt (n : Nat) (v : State) : State := { v with att := n, phase := .attempting .txFlush, timers := {} }

/-- A transaction whose request is built, in receive mode between its attempts. -/
structure State.BetweenAttempts (v : State) : Prop where
  busy : v.busy = true
  quiet : v.Quiet
  length : v.req.length = 8
  noOver : v.reqOver = none
  cfg_ok : v.cfg.ok = true

/-- An exchange leaves the transaction between its attempts, whatever the scratch accumulator holds then. -/
theorem State.BetweenAttempts.exchanged (hv : v.BetweenAttempts) (gap n : Nat) (answer : List Byte) :
    ((v.attempt n).exchanged gap answer).BetweenAttempts :=
  ⟨hv.busy, hv.quiet, hv.length, hv.noOver, hv.cfg_ok⟩

/-- The request of eight bytes passes the length check (R88, R122). -/
theorem beginAttempt_eq (hv : v.BetweenAttempts) (n : Nat) : beginAttempt n v = v.attempt n := by
  obtain ⟨-, -, -, -, -, -, -, hcap⟩ := Config.bounds_of_ok hv.cfg_ok
  have hop : requestOperand { v with att := n, phase := .attempting .txFlush, timers := {} } = v.req := by
    simp [requestOperand, hv.noOver]
  rw [beginAttempt, startTransmit, hop, if_neg (by simp only [hv.length]; omega), enter_eq]
  rfl

/-- An attempt against a willing transmitter, answered or not (R193). -/
theorem drive_attempt (hv : v.BetweenAttempts) (hidle : answer ≠ [] → gap ≤ v.cfg.tIdle)
    (hcap : answer.length ≤ v.cfg.rxCap) :
    drive (attemptScript v.cfg gap answer ++ es) (v.attempt n) =
      drive es (concludeAttempt (exchangeStatus answer) ((v.attempt n).exchanged gap answer)) := by
  obtain ⟨-, -, -, -, -, ⟨-, htmo⟩, -⟩ := Config.bounds_of_ok hv.cfg_ok
  have hflush : (v.attempt n).Flushes := ⟨hv.busy, rfl, hv.quiet, by rw [State.attempt, hv.length]; decide⟩
  exact drive_attemptScript (v := v.attempt n) hflush rfl hv.length rfl (fun ha => (hidle ha).trans htmo.le) hidle
    hcap

/-- A failed attempt that is not the last leads to the next after the retry delay (R196). -/
theorem drive_retry (hx : x.BetweenAttempts) (hatt : x.att < x.cfg.maxRetries) :
    drive ([.clock x.cfg.retryDelay, .sequencer] ++ es) (attemptFails x) =
      drive es (State.attempt (x.att + 1) { x with now := x.now + x.cfg.retryDelay }) := by
  rw [attemptFails, if_pos hatt, List.cons_append, List.cons_append, List.nil_append,
    drive_clock (by exact hx.busy) rfl, drive_cons (by exact hx.busy) rfl, sequencerStep]
  simp only [expired, le_refl, decide_true, if_true]
  rw [beginAttempt_eq (by exact ⟨hx.busy, hx.quiet, hx.length, hx.noOver, hx.cfg_ok⟩)]
  rfl

/-- The transaction in `v` after an attempt that has failed and the delay after it, the accumulator holding `crc`. -/
def State.delayed (v : State) (gap : Nat) (answer : List Byte) (crc : Word) : State :=
  { v.exchanged gap answer with crc := crc, now := attemptEnd v.cfg gap v.now answer + v.cfg.retryDelay }

theorem State.BetweenAttempts.delayed (hv : v.BetweenAttempts) (gap : Nat) (answer : List Byte) (crc : Word) :
    (v.delayed gap answer crc).BetweenAttempts :=
  ⟨hv.busy, hv.quiet, hv.length, hv.noOver, hv.cfg_ok⟩

/-- An attempt that fails and is not the last, and the delay after it, lead to the next attempt (R193, R196). -/
theorem drive_round (hv : v.BetweenAttempts) (hidle : answer ≠ [] → gap ≤ v.cfg.tIdle)
    (hcap : answer.length ≤ v.cfg.rxCap) (hn : n < v.cfg.maxRetries)
    (hrefused : (attemptCheck (v.exchanged gap answer)).status ≠ .ok) :
    ∃ crc,
      drive (attemptScript v.cfg gap answer ++ [.clock v.cfg.retryDelay, .sequencer] ++ es) (v.attempt n) =
        drive es ((v.delayed gap answer crc).attempt (n + 1)) := by
  obtain ⟨crc, hfails⟩ := concludeAttempt_refused (s := (v.attempt n).exchanged gap answer) hrefused
  refine ⟨crc, ?_⟩
  rw [List.append_assoc, drive_attempt hv hidle hcap]
  refine (congrArg (drive _) hfails).trans ?_
  exact drive_retry (x := { (v.attempt n).exchanged gap answer with crc := crc })
    ⟨hv.busy, hv.quiet, hv.length, hv.noOver, hv.cfg_ok⟩ hn

/-! ## The end of a transaction -/

/-- The sequencer's step after an accepted answer ends the transaction `OK` (R195, R200). -/
theorem drive_succeeds (hx : x.BetweenAttempts) (h : (attemptCheck x).status = .ok) :
    drive (.sequencer :: es) (concludeAttempt (exchangeStatus x.rsp) x) =
      .next { x with
        crc := (attemptCheck x).crc.getD x.crc, res8 := if reading x then coilBitmask x.rsp else x.res8, status := .ok,
        phase := .idle, busy := false, done := true, timers := {}, script := es } := by
  rw [concludeAttempt_accepted h, drive_cons (by exact hx.busy) rfl, sequencerStep]
  simp only [attemptSucceeds]
  rw [drive_idle (finish_busy _ _), finish_of_released (by exact hx.quiet.1)]
  rfl

/-- The sequencer's step after the failure of the last attempt ends it `Timeout` (R197, R201). -/
theorem drive_exhausts (hx : x.BetweenAttempts) (h : (attemptCheck x).status ≠ .ok)
    (hlast : x.att = x.cfg.maxRetries) :
    ∃ crc res8 draws,
      drive (.sequencer :: es) (concludeAttempt (exchangeStatus x.rsp) x) =
        .next { x with
          crc := crc, res8 := res8, draws := draws, status := .timeout, phase := .idle, busy := false, done := true,
          timers := {}, script := es } := by
  obtain ⟨crc, hfails⟩ := concludeAttempt_refused h
  have hexhausted : attemptFails { x with crc := crc } = { x with crc := crc, phase := .exhausted, timers := {} } :=
    if_neg (by simp [hlast])
  rw [hfails, hexhausted, drive_cons (by exact hx.busy) rfl, sequencerStep]
  simp only [exhaustedPhase]
  split
  · rw [drive_idle (finish_busy _ _), finish_of_released (by exact hx.quiet.1)]
    exact ⟨crc, _, _, rfl⟩
  · rw [drive_idle (finish_busy _ _), finish_of_released (by exact hx.quiet.1)]
    exact ⟨crc, _, _, rfl⟩

/-! ## The start of a transaction -/

/-- A transaction accepted with the word `w`, once it has built the request with the given body (R191, R200). -/
def State.withRequest (w : CommandWord) (body : List Byte) (s : State) : State := buildRequest body (accept w s)

theorem betweenAttempts_withRequest (hs : s.ready) (w : CommandWord) {body : List Byte} (hlen : body.length = 6) :
    (s.withRequest w body).BetweenAttempts :=
  ⟨rfl, ⟨hs.de, hs.txq, hs.txsr⟩, by simp [State.withRequest, hlen], rfl, hs.2.2⟩

theorem channelOk_iff (c : Config) (ch : Word) :
    channelOk c ch = true ↔ 1 ≤ ch.toNat ∧ ch.toNat ≤ c.relayCount :=
  decide_eq_true_iff

/-- A `WRITE_COIL` begins its first attempt at the sequencer's first step (R191). -/
theorem exec_writeCoil_attempts (hs : s.ready) (st : Bool) {ch : Word}
    (hch : 1 ≤ ch.toNat ∧ ch.toNat ≤ s.cfg.relayCount) (hscript : s.script = .sequencer :: es) :
    exec (.writeCoil st ch) s =
      drive es ((s.withRequest (commandWord 0x8#4 st ch) (writeCoilBody s.cfg st ch)).attempt 1) := by
  have hok := (channelOk_iff s.cfg ch).mpr hch
  rw [exec, execWriteCoil, runCommand_ready hs, hscript, drive_cons (by rfl) rfl]
  simp only [sequencerStep, buildingPhase, reading, accept_cmd, accept_cfg, opField_commandWord, chanField_commandWord,
    stateField_commandWord, hok, if_true]
  rw [if_neg (by decide), ← beginAttempt_eq (betweenAttempts_withRequest hs _ rfl)]
  rfl

/-- A `READ_COILS` does so whatever the channel (R200). -/
theorem exec_readCoils_attempts (hs : s.ready) (st : Bool) (ch : Word) (hscript : s.script = .sequencer :: es) :
    exec (.readCoils st ch) s =
      drive es ((s.withRequest (commandWord 0x9#4 st ch) (readCoilsBody s.cfg)).attempt 1) := by
  rw [exec, execReadCoils, runCommand_ready hs, hscript, drive_cons (by rfl) rfl]
  simp only [sequencerStep, buildingPhase, reading, accept_cmd, accept_cfg, opField_commandWord]
  rw [if_pos (by rfl), ← beginAttempt_eq (betweenAttempts_withRequest hs _ rfl)]
  rfl

/-- Settles O42: the builder refuses the channel, and the exit actions find the line released. -/
theorem writeCoilFailsFast : Obligations.WriteCoilFailsFast := by
  intro s st ch rest hs hch hscript
  have hno : channelOk s.cfg ch = false := decide_eq_false (by omega)
  rw [exec, execWriteCoil, runCommand_ready hs, hscript, drive_cons (by rfl) rfl]
  simp only [sequencerStep, buildingPhase, reading, accept_cmd, accept_cfg, opField_commandWord, chanField_commandWord,
    hno]
  rw [if_neg (by decide), if_neg (by decide), drive_idle (finish_busy _ _), finish_of_released (by exact hs.de)]
  rfl

/-- A transaction whose first attempt is answered and accepted ends `OK` (R195, R200). -/
theorem drive_firstAttempt {w : CommandWord} {body : List Byte} {c : Word} (hs : s.ready) (hbody : body.length = 6)
    (hidle : gap ≤ s.cfg.tIdle) (hcap : answer.length ≤ s.cfg.rxCap) (hne : answer ≠ [])
    (hcheck : attemptCheck ((s.withRequest w body).exchanged gap answer) = { status := .ok, crc := some c }) :
    drive (sendScript s.cfg gap 8 ++ answerScript s.cfg gap answer ++ .sequencer :: es)
        ((s.withRequest w body).attempt 1) =
      .next { s.ended w .ok with
        req := withCrc body, reqWritten := true, reqOver := none, rsp := answer, rspWritten := true, rxq := [],
        txRoom := true, res8 := if opField w == 0x9#4 then coilBitmask answer else s.res8, crc := c, att := 1,
        now := answerEnd s.cfg gap (sendEnd s.cfg gap s.now 8) answer.length,
        trace := s.trace ++ sendTrace s.cfg gap s.rxq.length s.now (withCrc body) ++
          rxTrace gap (sendEnd s.cfg gap s.now 8) answer,
        script := es } := by
  have hv := betweenAttempts_withRequest hs w hbody
  have hattempt := drive_attempt (n := 1) (es := .sequencer :: es) hv (fun _ => hidle) hcap
  have hend := drive_succeeds (es := es) (x := ((s.withRequest w body).attempt 1).exchanged gap answer)
    (hv.exchanged gap 1 answer) (congrArg Verdict.status hcheck)
  rw [attemptScript, if_neg hne] at hattempt
  refine (hattempt.trans hend).trans ?_
  rw [show attemptCheck (((s.withRequest w body).attempt 1).exchanged gap answer) = _ from hcheck]
  have htime : attemptEnd s.cfg gap s.now answer = answerEnd s.cfg gap (sendEnd s.cfg gap s.now 8) answer.length :=
    if_neg hne
  rw [← htime]
  rfl

/-- The checker of a `WRITE_COIL` (R191). -/
theorem attemptCheck_write (h : opField s.cmd = 0x8#4) : attemptCheck s = validateWriteCoil s.req s.rsp :=
  if_neg (by simp [reading, h])

/-- The checker of a `READ_COILS` (R200). -/
theorem attemptCheck_read (h : opField s.cmd = 0x9#4) : attemptCheck s = parseReadCoils s.req s.rsp :=
  if_pos (by simp [reading, h])

/-- Settles O43: the checker accepts the echo of the request. -/
theorem writeCoilSucceedsOnTheEcho : Obligations.WriteCoilSucceedsOnTheEcho := by
  intro s st ch gap rest hs hlow hhigh hidle
  dsimp only
  intro hscript
  obtain ⟨-, -, -, -, -, -, hcap, -⟩ := Config.bounds_of_ok hs.2.2
  rw [exec_writeCoil_attempts hs st ⟨hlow, hhigh⟩ (hscript.trans (by simp only [List.append_assoc]; rfl))]
  have hbody : (writeCoilBody s.cfg st ch).length = 6 := rfl
  generalize writeCoilBody s.cfg st ch = body at hbody ⊢
  have hcheck := (attemptCheck_write (s := (s.withRequest (commandWord 0x8#4 st ch) body).exchanged gap (withCrc body))
    (opField_commandWord _ _ _)).trans (validateWriteCoil_echo hbody)
  have hrun := drive_firstAttempt (es := rest) hs hbody hidle (by simpa [hbody] using hcap) (by simp [withCrc]) hcheck
  simpa [hbody, State.ended] using hrun

/-- A frame of five bytes or more with a good CRC and the request's header is accepted (R178, R183). -/
theorem parseReadCoils_frame {q body : List Byte} (hq : q.length = 8) (hbody : 3 ≤ body.length)
    (hhdr : body.take 2 = q.take 2) :
    parseReadCoils q (withCrc body) = { status := .ok, crc := some (crc16 body) } := by
  have hlen : (withCrc body).length - 2 = body.length := by simp
  have hhdr' : ¬ (byteAt (withCrc body) 0 ≠ byteAt q 0 ∨ byteAt (withCrc body) 1 ≠ byteAt q 1) := by
    rw [header_ne_iff (by omega) (by simp), withCrc, List.take_append_of_le_length (by omega)]
    exact not_not_intro hhdr
  simp only [parseReadCoils, hlen, take_withCrc body rfl, if_neg hhdr']
  rw [byteAt_withCrc_lo body rfl, byteAt_withCrc_hi body (by simp), if_neg (not_not_intro hq), if_neg (by simp; omega),
    if_neg (by simp)]

/-- Settles O44: the checker accepts the answer, and its byte 3 is the bitmask. -/
theorem readCoilsReturnsTheBitmask : Obligations.ReadCoilsReturnsTheBitmask := by
  intro s st ch gap n data rest hs hidle
  dsimp only
  intro hcap hscript
  rw [exec_readCoils_attempts hs st ch (hscript.trans (by simp only [List.append_assoc]; rfl))]
  have hbody : (readCoilsBody s.cfg).length = 6 := rfl
  have hhdr : ([s.cfg.slaveAddr, 0x01#8, n] ++ data).take 2 = (withCrc (readCoilsBody s.cfg)).take 2 := rfl
  generalize readCoilsBody s.cfg = body at hbody hhdr ⊢
  have hlong : 3 ≤ ([s.cfg.slaveAddr, 0x01#8, n] ++ data).length := by simp
  generalize [s.cfg.slaveAddr, 0x01#8, n] ++ data = reply at *
  have hcheck := (attemptCheck_read (s := (s.withRequest (commandWord 0x9#4 st ch) body).exchanged gap (withCrc reply))
    (opField_commandWord _ _ _)).trans (parseReadCoils_frame (q := withCrc body) (by simp [hbody]) hlong hhdr)
  have hrun := drive_firstAttempt (es := rest) hs hbody hidle hcap (by simp [withCrc]) hcheck
  simpa [coilBitmask] using hrun

/-! ## A silent line -/

@[simp] theorem countEvents_nil (p : WireEvent → Bool) : countEvents p [] = 0 := rfl

@[simp] theorem countEvents_cons (p : WireEvent → Bool) (r : WireEvent × Nat) (tr : List (WireEvent × Nat)) :
    countEvents p (r :: tr) = countEvents p tr + if p r.1 then 1 else 0 := List.countP_cons

@[simp] theorem countEvents_append (p : WireEvent → Bool) (a b : List (WireEvent × Nat)) :
    countEvents p (a ++ b) = countEvents p a + countEvents p b := List.countP_append

theorem countEvents_deUp_txTrace (gap t : Nat) (bytes : List Byte) :
    countEvents WireEvent.isDeUp (txTrace gap t bytes) = 0 := by
  induction bytes generalizing t with
  | nil => rfl
  | cons b bs ih => simp [txTrace, ih, WireEvent.isDeUp]

theorem countEvents_deUp_sendTrace (c : Config) (gap k t : Nat) (bytes : List Byte) :
    countEvents WireEvent.isDeUp (sendTrace c gap k t bytes) = 1 := by
  simp [sendTrace, countEvents_deUp_txTrace, WireEvent.isDeUp]

/-- The ticks an unanswered attempt takes. -/
def silentTicks (c : Config) (gap : Nat) : Nat := c.tSettle + gap * 8 + c.tHold + c.attemptTimeout

theorem attemptEnd_silent (c : Config) (gap t : Nat) : attemptEnd c gap t [] = t + silentTicks c gap := by
  simp [attemptEnd, sendEnd, silentTicks, Nat.add_assoc]

/-- Attempts on a silent line, as rounds of the transaction. -/
theorem silentAttempts_succ (c : Config) (gap n : Nat) :
    silentAttempts c gap 8 (n + 1) = blockRounds c gap (List.replicate n []) ++ attemptScript c gap [] := by
  induction n with
  | zero => simp [silentAttempts, blockRounds, attemptScript]
  | succ n ih => simp [silentAttempts, ih, List.replicate_succ, blockRounds, attemptScript]

/-- `u` is `v` after `k` unanswered attempts, each with the retry delay after it. -/
structure Unheard (gap k : Nat) (v u : State) : Prop where
  between : u.BetweenAttempts
  cfg : u.cfg = v.cfg
  now : u.now = v.now + k * (silentTicks v.cfg gap + v.cfg.retryDelay)
  ups : countEvents WireEvent.isDeUp u.trace = countEvents WireEvent.isDeUp v.trace + k

theorem drive_silentRounds (k : Nat) (hv : v.BetweenAttempts) (hn : n + k ≤ v.cfg.maxRetries) :
    ∃ u, Unheard gap k v u ∧
      drive (blockRounds v.cfg gap (List.replicate k []) ++ es) (v.attempt n) = drive es (u.attempt (n + k)) := by
  induction k generalizing v n with
  | zero => exact ⟨v, ⟨hv, rfl, by simp, rfl⟩, rfl⟩
  | succ k ih =>
    obtain ⟨crc, hround⟩ := drive_round (answer := []) (n := n)
      (es := blockRounds v.cfg gap (List.replicate k []) ++ es) hv nofun (Nat.zero_le _) (by omega)
      (attemptCheck_empty rfl)
    obtain ⟨u, hu, hrest⟩ := ih (n := n + 1) (hv.delayed gap [] crc)
      (by show n + 1 + k ≤ v.cfg.maxRetries; omega)
    refine ⟨u, ⟨hu.between, hu.cfg, ?_, ?_⟩, ?_⟩
    · rw [hu.now]
      simp only [State.delayed, State.exchanged, attemptEnd_silent]
      ring
    · rw [hu.ups]
      simp [State.delayed, State.exchanged, rxTrace, countEvents_deUp_sendTrace]
      omega
    · rw [List.replicate_succ, blockRounds, List.append_assoc, hround, Nat.add_comm k 1, ← Nat.add_assoc]
      exact hrest

/-- Settles O45: all the attempts but the last are rounds, and the last one's failure exhausts them. -/
theorem silentLineExhaustsTheAttempts : Obligations.SilentLineExhaustsTheAttempts := by
  intro s i st ch gap rest hs hi hscript
  obtain ⟨-, hmax, -⟩ := Config.bounds_of_ok hs.2.2
  obtain ⟨m, hm⟩ := Nat.exists_eq_add_of_le' hmax
  obtain ⟨w, body, hbody, hexec⟩ : ∃ w body, body.length = 6 ∧ ∀ es, s.script = .sequencer :: es →
      exec i s = drive es ((s.withRequest w body).attempt 1) := by
    obtain rfl | ⟨rfl, hch⟩ := hi
    · exact ⟨_, readCoilsBody s.cfg, rfl, fun _ => exec_readCoils_attempts hs st ch⟩
    · exact ⟨_, writeCoilBody s.cfg st ch, rfl, fun _ => exec_writeCoil_attempts hs st hch⟩
  obtain ⟨u, hu, hrounds⟩ := drive_silentRounds (v := s.withRequest w body) (gap := gap) (n := 1)
    (es := attemptScript s.cfg gap [] ++ .sequencer :: rest) m (betweenAttempts_withRequest hs w hbody)
    (by show 1 + m ≤ s.cfg.maxRetries; omega)
  have hcfg : u.cfg = s.cfg := hu.cfg
  have hlast := drive_attempt (gap := gap) (answer := []) (n := 1 + m) (es := .sequencer :: rest) hu.between nofun
    (Nat.zero_le _)
  rw [hcfg] at hlast
  obtain ⟨crc, mask, k, hend⟩ := drive_exhausts (es := rest) (x := (u.attempt (1 + m)).exchanged gap [])
    (hu.between.exchanged gap (1 + m) []) (attemptCheck_empty rfl) (by show 1 + m = u.cfg.maxRetries; rw [hcfg]; omega)
  refine ⟨_, (hexec _ ?_).trans (hrounds.trans (hlast.trans hend)), rfl, rfl, rfl, hu.between.quiet.1, rfl, ?_, rfl,
    ?_, ?_⟩
  · rw [hscript, hm, silentAttempts_succ]
    simp [State.withRequest]
  · show 1 + m = s.cfg.maxRetries
    omega
  · have hups : countEvents WireEvent.isDeUp u.trace = countEvents WireEvent.isDeUp s.trace + m := hu.ups
    simp [State.exchanged, State.attempt, rxTrace, countEvents_deUp_sendTrace, hups]
    omega
  · have hnow : u.now = s.now + m * (silentTicks s.cfg gap + s.cfg.retryDelay) := hu.now
    show attemptEnd u.cfg gap u.now [] = _
    rw [attemptEnd_silent, hnow, hcfg, hm, Nat.add_sub_cancel, silentTicks]
    ring

end Sys2Proof.Machine
end

section
/-! # A transaction composed by the host

The host's composition and the block command run in step: between two rounds the host's idle block and the transaction
in progress agree on everything a round depends on and leaves (`SameView`), and a round takes both to the same (R207).
The two transactions are told apart by `reads`, true for `READ_COILS`. -/

namespace Sys2Proof.Machine

variable {s t u v h : State} {es : List Event} {gap n : Nat} {answer : List Byte} {reads st : Bool} {ch : Word}

/-! ## The two transactions -/

/-- The builder's command. -/
def buildWord (reads st : Bool) (ch : Word) : CommandWord := commandWord (if reads then 0x5#4 else 0x4#4) st ch

/-- The checker's command. -/
def checkWord (reads st : Bool) (ch : Word) : CommandWord := commandWord (if reads then 0x7#4 else 0x6#4) st ch

/-- The block command. -/
def blockWord (reads st : Bool) (ch : Word) : CommandWord := commandWord (if reads then 0x9#4 else 0x8#4) st ch

/-- The first six bytes of the request. -/
def requestBody (reads : Bool) (c : Config) (st : Bool) (ch : Word) : List Byte :=
  if reads then readCoilsBody c else writeCoilBody c st ch

/-- The bitmask the host reads after an accepted response, if any. -/
def maskOf (reads : Bool) (rsp : List Byte) : Option Byte := if reads then some (coilBitmask rsp) else none

theorem length_requestBody (reads : Bool) (c : Config) (st : Bool) (ch : Word) :
    (requestBody reads c st ch).length = 6 := by
  cases reads <;> rfl

theorem reading_of_blockWord (h : s.cmd = blockWord reads st ch) : reading s = reads := by
  rw [reading, h, blockWord, opField_commandWord]
  cases reads <;> rfl

/-! ## What a round depends on and leaves -/

/-- `h` and `v` agree on what a round of a transaction depends on and on what it leaves. -/
structure SameView (v h : State) : Prop where
  cfg : h.cfg = v.cfg
  req : h.req = v.req
  reqOver : h.reqOver = v.reqOver
  rsp : h.rsp = v.rsp
  rxq : h.rxq = v.rxq
  now : h.now = v.now
  trace : h.trace = v.trace

/-- The host's block is idle and in the view of `v`, with the moves `es` to come. -/
structure HostAt (es : List Event) (v h : State) : Prop where
  ready : h.ready
  script : h.script = es
  view : SameView v h

/-- Exchanges of the same request begun in the same view end in the same view. -/
theorem SameView.exchanged (hh : SameView v h) (gap : Nat) (answer : List Byte) :
    SameView (v.exchanged gap answer) (h.exchanged gap answer) := by
  constructor <;> simp [State.exchanged, hh.cfg, hh.req, hh.reqOver, hh.rxq, hh.now, hh.trace]

theorem SameView.trans (hv : SameView v h) (hu : SameView h u) : SameView v u := by
  constructor
  · exact hu.cfg.trans hv.cfg
  · exact hu.req.trans hv.req
  · exact hu.reqOver.trans hv.reqOver
  · exact hu.rsp.trans hv.rsp
  · exact hu.rxq.trans hv.rxq
  · exact hu.now.trans hv.now
  · exact hu.trace.trans hv.trace

theorem State.ready.ports (hs : s.ready) (es : List Event) (tmo : Nat) (data : List Byte) :
    State.ready { s with script := es, tmoIn := tmo, dataIn := data } :=
  ⟨hs.1.surroundings s.rxq s.now s.txRoom es tmo data, hs.2⟩

/-- A step of the host's idle block that ends idle. -/
theorem hostAt_of_step (hs : s.ready) (hstep : step s = .next t) (hb : t.busy = false) (hc : t.cfg = s.cfg)
    (hes : t.script = es) (hview : SameView v t) : HostAt es v t :=
  ⟨⟨stepKeepsTheInvariant s t hs.1 hstep, hb, by rw [hc]; exact hs.2.2⟩, hes, hview⟩

/-- A step that presents a command to an idle block is that command (R60). -/
theorem step_hostCommand {i : Instr} {w : CommandWord} {tmo : Nat} {data : List Byte} (hs : s.ready)
    (hscript : s.script = .hostCommand w tmo data :: es) (hi : encode i = .command w) (hwf : i.wellFormed = true) :
    step s = exec i { s with script := es, tmoIn := tmo, dataIn := data } := by
  obtain ⟨hcommand, -⟩ := stepRunsTheDecodedInstruction
  exact hcommand s w tmo data es i hscript hs.2.1 (hi ▸ decodeOfEncodeIsTheInstruction i hwf)

/-! ## The host's steps -/

/-- The host builds the request (R160, R166). -/
theorem step_hostBuild (hs : s.ready) (hch : reads = false → 1 ≤ ch.toNat ∧ ch.toNat ≤ s.cfg.relayCount)
    (hscript : s.script = .hostCommand (buildWord reads st ch) 0 [] :: es) :
    ∃ h, step s = .next h ∧ h.script = es ∧ h.busy = false ∧
      SameView { s with req := withCrc (requestBody reads s.cfg st ch), reqOver := none } h := by
  cases reads with
  | false =>
    obtain ⟨crc, hexec⟩ := buildWriteCoilRequest _ st ch (hs.ports es 0 [])
    rw [if_pos (hch rfl)] at hexec
    refine ⟨_, (step_hostCommand hs hscript (i := .buildWc st ch) rfl rfl).trans hexec, rfl, rfl, ?_⟩
    refine ⟨rfl, ?_, rfl, rfl, rfl, rfl, rfl⟩
    show _ = withCrc (writeCoilBody s.cfg st ch)
    rw [writeCoilBody_eq]
    rfl
  | true =>
    obtain ⟨crc, hexec⟩ := buildReadCoilsRequest _ st ch (hs.ports es 0 [])
    exact ⟨_, (step_hostCommand hs hscript (i := .buildRc st ch) rfl rfl).trans hexec, rfl, rfl,
      ⟨rfl, rfl, rfl, rfl, rfl, rfl, rfl⟩⟩

/-- An `EXCHANGE` with the timeout of an attempt, answered or not (R150). -/
theorem exec_exchange (hs : s.ready) (hlen : s.req.length = 8) (hover : s.reqOver = none)
    (htmo : s.tmoIn = s.cfg.attemptTimeout) (hidle : gap ≤ s.cfg.tIdle) (hcap : answer.length ≤ s.cfg.rxCap)
    (hscript : s.script = attemptScript s.cfg gap answer ++ es) (st : Bool) (ch : Word) :
    exec (.exchange st ch) s =
      .next { (s.exchanged gap answer).ended (commandWord 0x3#4 st ch) (exchangeStatus answer) with script := es } := by
  obtain ⟨-, -, -, -, -, ⟨-, hlong⟩, -⟩ := Config.bounds_of_ok hs.2.2
  obtain ⟨hstart, hflush⟩ := startTransmit_flushes (commandWord 0x3#4 st ch) hs hover (by omega)
  have hphase : (enter .txFlush (accept (commandWord 0x3#4 st ch) s)).phase = .transport .txFlush := by simp [hs.phase]
  have hx : exchanging (enter .txFlush (accept (commandWord 0x3#4 st ch) s)) = true := by simp [exchanging, hs.phase]
  have hfirst : firstByteTimeout (enter .txFlush (accept (commandWord 0x3#4 st ch) s)) = s.cfg.attemptTimeout := by
    rw [firstByteTimeout, hphase]
    exact htmo
  rw [exec, execExchange, runCommand_ready hs, hstart, hscript]
  refine (drive_attemptScript hflush hx hlen hfirst (fun _ => hidle.trans hlong.le) (fun _ => hidle) hcap).trans ?_
  exact drive_endTransport
    (s := State.exchanged (enter .txFlush (accept (commandWord 0x3#4 st ch) s)) gap answer) _
    (fun q hq => by cases hphase.symm.trans hq) hs.de

/-- The host's exchange of a round. -/
theorem step_hostExchange (hlen : v.req.length = 8) (hover : v.reqOver = none) (hidle : gap ≤ v.cfg.tIdle)
    (hcap : answer.length ≤ v.cfg.rxCap)
    (hh : HostAt (.hostCommand (commandWord 0x3#4 false 0#16) v.cfg.attemptTimeout [] ::
      (attemptScript v.cfg gap answer ++ es)) v h) :
    ∃ t, step h = .next t ∧ HostAt es (v.exchanged gap answer) t ∧ t.status = exchangeStatus answer ∧
      readRes8 t = none := by
  obtain ⟨hready, hscript, hview⟩ := hh
  have hexec := exec_exchange (es := es) (gap := gap) (answer := answer)
    (hready.ports (attemptScript v.cfg gap answer ++ es) v.cfg.attemptTimeout []) (hview.req ▸ hlen)
    (hview.reqOver.trans hover)
    (congrArg Config.attemptTimeout hview.cfg.symm) (hview.cfg ▸ hidle) (hview.cfg ▸ hcap)
    (by rw [hview.cfg]) false 0#16
  have hstep := (step_hostCommand hready hscript (i := .exchange false 0#16) rfl rfl).trans hexec
  refine ⟨_, hstep, hostAt_of_step hready hstep rfl rfl rfl ?_, rfl, ?_⟩
  · exact (hview.exchanged gap answer).trans ⟨rfl, rfl, rfl, rfl, rfl, rfl, rfl⟩
  · simp [readRes8, State.ended]

theorem requestOperand_of_none (hover : s.reqOver = none) : requestOperand s = s.req := by
  rw [requestOperand, hover, Option.getD_none]

/-- The check of a round as a command: its verdict, and the bitmask of an accepted read (R172, R178). -/
theorem exec_check (hs : s.ready) (hover : s.reqOver = none) (reads st : Bool) (ch : Word) :
    ∃ i t, encode i = .command (checkWord reads st ch) ∧ i.wellFormed = true ∧ exec i s = .next t ∧
      t.busy = false ∧ t.script = s.script ∧ SameView s t ∧ t.status = (verdictOf reads s.req s.rsp).status ∧
      readRes8 t = if (verdictOf reads s.req s.rsp).status = .ok then maskOf reads s.rsp else none := by
  cases reads with
  | false =>
    have hexec := exec_validateWc hs st ch
    rw [requestOperand_of_none hover] at hexec
    exact ⟨_, _, rfl, rfl, hexec, rfl, rfl, ⟨rfl, rfl, rfl, rfl, rfl, rfl, rfl⟩, rfl,
      by simp [readRes8, State.ended, maskOf]⟩
  | true =>
    obtain ⟨mask, k, hexec, hmask⟩ := exec_parseRc hs st ch
    rw [requestOperand_of_none hover] at hexec hmask
    refine ⟨_, _, rfl, rfl, hexec, rfl, rfl, ⟨rfl, rfl, rfl, rfl, rfl, rfl, rfl⟩, rfl, ?_⟩
    by_cases hok : (parseReadCoils s.req s.rsp).status = .ok
    · simp [readRes8, State.ended, maskOf, verdictOf, hok, hmask hok]
    · simp [readRes8, State.ended, verdictOf, hok]

/-- The host's check of a round. -/
theorem step_hostCheck (hover : v.reqOver = none)
    (hh : HostAt (.hostCommand (checkWord reads st ch) 0 [] :: es) v h) :
    ∃ t, step h = .next t ∧ HostAt es v t ∧ t.status = (verdictOf reads v.req v.rsp).status ∧
      readRes8 t = if (verdictOf reads v.req v.rsp).status = .ok then maskOf reads v.rsp else none := by
  obtain ⟨hready, hscript, hview⟩ := hh
  obtain ⟨i, t, hi, hwf, hexec, hb, hes, hsame, hstatus, hmask⟩ :=
    exec_check (hready.ports es 0 []) (hview.reqOver.trans hover) reads st ch
  have hstep := (step_hostCommand hready hscript hi hwf).trans hexec
  refine ⟨t, hstep, hostAt_of_step hready hstep hb hsame.cfg hes
    (hview.trans (SameView.trans (by constructor <;> rfl) hsame)), ?_, ?_⟩
  · rw [hstatus, ← hview.req, ← hview.rsp]
  · rw [hmask, ← hview.req, ← hview.rsp]

/-- While the host waits the clock of its idle block goes on (R207). -/
theorem step_hostWait (hh : HostAt (.clock n :: es) v h) :
    ∃ t, step h = .next t ∧ HostAt es { v with now := v.now + n } t := by
  obtain ⟨hready, hscript, hview⟩ := hh
  have hstep : step h = .next { h with script := es, now := h.now + n } := by
    simp only [step, hscript, fetchAndRun, perform]
    rw [advanceClock_waits (by simp [deadlinePassed, hready.phase, linePhase])]
  refine ⟨_, hstep, hostAt_of_step hready hstep hready.2.1 rfl rfl ?_⟩
  exact ⟨hview.cfg, hview.req, hview.reqOver, hview.rsp, hview.rxq, congrArg (fun k => k + n) hview.now,
    hview.trace⟩

/-! ## A round, in both forms -/

theorem Reaches.trans (hs : Reaches s t) (ht : Reaches t u) : Reaches s u := by
  induction ht with
  | refl => exact hs
  | step _ hstep ih => exact ih.step hstep

/-- The host's round: the exchange, and the check of what was received (R207). -/
theorem reaches_hostRound (hlen : v.req.length = 8) (hover : v.reqOver = none) (hidle : gap ≤ v.cfg.tIdle)
    (hcap : answer.length ≤ v.cfg.rxCap)
    (hh : HostAt (hostRound v.cfg gap (checkWord reads st ch) answer ++ es) v h) :
    ∃ t, Reaches h t ∧ HostAt es (v.exchanged gap answer) t ∧
      (t.status = .ok ↔ (verdictOf reads v.req answer).status = .ok) ∧
      readRes8 t = if (verdictOf reads v.req answer).status = .ok then maskOf reads answer else none := by
  by_cases ha : answer = []
  · rw [hostRound, if_pos ha, List.append_nil, List.append_assoc] at hh
    obtain ⟨t, hstep, hat, hstatus, hmask⟩ := step_hostExchange hlen hover hidle hcap hh
    subst ha
    exact ⟨t, .step (.refl h) hstep, hat, iff_of_false (by rw [hstatus]; decide) (verdictOf_empty reads v.req),
      by rw [hmask, if_neg (verdictOf_empty reads v.req)]⟩
  · rw [hostRound, if_neg ha, List.append_assoc, List.append_assoc] at hh
    obtain ⟨t, hstep, hat, -, -⟩ := step_hostExchange hlen hover hidle hcap hh
    obtain ⟨u, hcheck, hau, hstatus, hmask⟩ := step_hostCheck (v := v.exchanged gap answer) hover hat
    exact ⟨u, .step (.step (.refl h) hstep) hcheck, hau, by rw [hstatus]; rfl, hmask⟩

/-- Round by round, the host's failed attempts and the block's lead from one view to one view (R207). -/
theorem reaches_rounds {blockRest : List Event} (failed : List (List Byte)) (hv : v.BetweenAttempts)
    (hread : reading v = reads) (hidle : gap ≤ v.cfg.tIdle) (hcap : ∀ a ∈ failed, a.length ≤ v.cfg.rxCap)
    (hfailed : ∀ a ∈ failed, (verdictOf reads v.req a).status ≠ .ok) (hn : n + failed.length ≤ v.cfg.maxRetries)
    (hh : HostAt (hostRounds v.cfg gap (checkWord reads st ch) failed ++ es) v h) :
    ∃ t u, Reaches h t ∧ HostAt es u t ∧ u.BetweenAttempts ∧
      u.cfg = v.cfg ∧ u.req = v.req ∧ u.cmd = v.cmd ∧
      drive (blockRounds v.cfg gap failed ++ blockRest) (v.attempt n) =
        drive blockRest (u.attempt (n + failed.length)) := by
  induction failed generalizing v h n with
  | nil => exact ⟨h, v, .refl h, hh, hv, rfl, rfl, rfl, rfl⟩
  | cons a as ih =>
    simp only [List.mem_cons, forall_eq_or_imp] at hcap hfailed
    rw [List.length_cons] at hn
    rw [hostRounds, List.append_assoc, List.append_assoc] at hh
    obtain ⟨t, ht, hat, -, -⟩ := reaches_hostRound hv.length hv.noOver hidle hcap.1 hh
    obtain ⟨t', hwait, hat'⟩ := step_hostWait hat
    obtain ⟨crc, hround⟩ := drive_round (n := n) (es := blockRounds v.cfg gap as ++ blockRest) hv (fun _ => hidle)
      hcap.1 (by omega) (by rw [attemptCheck_eq, ← hread] at *; exact hfailed.1)
    obtain ⟨t'', u, hreach, hau, hu, hcfg, hreq, hcmd, hrest⟩ := ih (n := n + 1) (h := t')
      (hv.delayed gap a crc) hread hidle hcap.2 hfailed.2
      (by show n + 1 + as.length ≤ v.cfg.maxRetries; omega)
      ⟨hat'.ready, hat'.script, SameView.trans (by constructor <;> rfl) hat'.view⟩
    refine ⟨t'', u, (ht.trans (.step (.refl t) hwait)).trans hreach, hau, hu, hcfg, hreq, hcmd, ?_⟩
    rw [blockRounds, List.append_assoc, hround, List.length_cons, Nat.add_comm as.length 1, ← Nat.add_assoc]
    exact hrest

/-- The block's last attempt ends the transaction as the checker decides (R195, R197). -/
theorem drive_lastAttempt (hv : v.BetweenAttempts) (hcmd : v.cmd = blockWord reads st ch) (hidle : gap ≤ v.cfg.tIdle)
    (hcap : answer.length ≤ v.cfg.rxCap)
    (hlast : (verdictOf reads v.req answer).status = .ok ∨ n = v.cfg.maxRetries) :
    ∃ u, drive (attemptScript v.cfg gap answer ++ .sequencer :: es) (v.attempt n) = .next u ∧ u.script = es ∧
      u.busy = false ∧ SameView (v.exchanged gap answer) u ∧
      (u.status = .ok ↔ (verdictOf reads v.req answer).status = .ok) ∧ (u.status = .ok ∨ u.status = .timeout) ∧
      readRes8 u = if (verdictOf reads v.req answer).status = .ok then maskOf reads answer else none := by
  have hread := reading_of_blockWord hcmd
  have hx := hv.exchanged gap n answer
  have hcheck : attemptCheck ((v.attempt n).exchanged gap answer) = verdictOf reads v.req answer := by
    rw [← hread]
    rfl
  have hattempt := drive_attempt (n := n) (es := .sequencer :: es) hv (fun _ => hidle) hcap
  by_cases hok : (verdictOf reads v.req answer).status = .ok
  · have hend := drive_succeeds (es := es) hx (by rw [hcheck]; exact hok)
    refine ⟨_, hattempt.trans hend, rfl, rfl, ⟨rfl, rfl, rfl, rfl, rfl, rfl, rfl⟩, iff_of_true rfl hok, .inl rfl, ?_⟩
    have hread' : reading ((v.attempt n).exchanged gap answer) = reads := hread
    have hcmd' : ((v.attempt n).exchanged gap answer).cmd = blockWord reads st ch := hcmd
    have hrsp : ((v.attempt n).exchanged gap answer).rsp = answer := rfl
    rw [readRes8, if_pos hok]
    cases reads with
    | false => simp [hcmd', blockWord, maskOf]
    | true => simp [hread', hcmd', hrsp, blockWord, maskOf]
  · obtain ⟨crc, mask, k, hend⟩ := drive_exhausts (es := es) hx (by rw [hcheck]; exact hok)
      (hlast.resolve_left hok)
    refine ⟨_, hattempt.trans hend, rfl, rfl, ⟨rfl, rfl, rfl, rfl, rfl, rfl, rfl⟩,
      iff_of_false Status.noConfusion hok, .inr rfl, ?_⟩
    rw [if_neg hok]
    simp [readRes8]

/-! ## The statements -/

theorem run_succ_of_step {k : Nat} (h : Sys2Proof.core.run k s = .next t) (ht : step t = .next u) :
    Sys2Proof.core.run (k + 1) s = .next u := by
  induction k generalizing s with
  | zero =>
    cases h
    simp [Host.Core.run, core, ht]
  | succ k ih =>
    simp only [Host.Core.run] at h ⊢
    split at h
    · exact ih h
    · cases h
    · cases h

theorem run_of_reaches (h : Reaches s t) : ∃ k, Sys2Proof.core.run k s = .next t := by
  induction h with
  | refl => exact ⟨0, rfl⟩
  | step _ ht ih =>
    obtain ⟨k, hk⟩ := ih
    exact ⟨k + 1, run_succ_of_step hk ht⟩

/-- The step that presents the block command begins its first attempt (R191, R200). -/
theorem step_block (hs : s.ready) (hch : reads = false → 1 ≤ ch.toNat ∧ ch.toNat ≤ s.cfg.relayCount)
    (hscript : s.script = .hostCommand (blockWord reads st ch) 0 [] :: .sequencer :: es) :
    ∃ v, step s = drive es (v.attempt 1) ∧ v.BetweenAttempts ∧ v.cmd = blockWord reads st ch ∧
      SameView v { s with req := withCrc (requestBody reads s.cfg st ch), reqOver := none } := by
  have hports := hs.ports (.sequencer :: es) 0 []
  refine ⟨State.withRequest (blockWord reads st ch) (requestBody reads s.cfg st ch)
    { s with script := .sequencer :: es, tmoIn := 0, dataIn := [] }, ?_,
    betweenAttempts_withRequest hports _ (length_requestBody reads s.cfg st ch), rfl,
    ⟨rfl, rfl, rfl, rfl, rfl, rfl, rfl⟩⟩
  cases reads with
  | false =>
    exact (step_hostCommand hs hscript (i := .writeCoil st ch) rfl rfl).trans
      (exec_writeCoil_attempts hports st (hch rfl) rfl)
  | true =>
    exact (step_hostCommand hs hscript (i := .readCoils st ch) rfl rfl).trans
      (exec_readCoils_attempts hports st ch rfl)

/-- Built by the host or in the block, the request begins both forms in one view. -/
theorem forms_begin (hs : s.ready) (hch : reads = false → 1 ≤ ch.toNat ∧ ch.toNat ≤ s.cfg.relayCount)
    (hostRest blockRest : List Event) :
    ∃ h v, step { s with script := .hostCommand (buildWord reads st ch) 0 [] :: hostRest } = .next h ∧
      step { s with script := .hostCommand (blockWord reads st ch) 0 [] :: .sequencer :: blockRest } =
        drive blockRest (v.attempt 1) ∧
      HostAt hostRest v h ∧ v.BetweenAttempts ∧ v.cmd = blockWord reads st ch ∧ v.cfg = s.cfg ∧
      v.req = withCrc (requestBody reads s.cfg st ch) := by
  have hready : ∀ es, State.ready { s with script := es } := fun es => hs.ports es s.tmoIn s.dataIn
  obtain ⟨h, hbuild, hes, hb, hview⟩ := step_hostBuild (reads := reads) (st := st) (ch := ch)
    (hready (.hostCommand (buildWord reads st ch) 0 [] :: hostRest)) hch rfl
  obtain ⟨v, hblock, hv, hcmd, hview'⟩ := step_block (reads := reads) (st := st) (ch := ch)
    (hready (.hostCommand (blockWord reads st ch) 0 [] :: .sequencer :: blockRest)) hch rfl
  have hsame : SameView v h := hview'.trans (SameView.trans (by constructor <;> rfl) hview)
  exact ⟨h, v, hbuild, hblock, hostAt_of_step (hready _) hbuild hb hview.cfg hes hsame, hv, hcmd, hview'.cfg.symm,
    hview'.req.symm⟩

/-- The two forms of a transaction agree (R207). -/
theorem composed_agrees (hs : s.ready) (hch : reads = false → 1 ≤ ch.toNat ∧ ch.toNat ≤ s.cfg.relayCount)
    (hidle : gap ≤ s.cfg.tIdle) {failed : List (List Byte)} {last : List Byte} (hn : failed.length < s.cfg.maxRetries)
    (hcap : ∀ a ∈ last :: failed, a.length ≤ s.cfg.rxCap)
    (hfailed : ∀ a ∈ failed, (verdictOf reads (withCrc (requestBody reads s.cfg st ch)) a).status ≠ .ok)
    (hlast : (verdictOf reads (withCrc (requestBody reads s.cfg st ch)) last).status = .ok ∨
      failed.length + 1 = s.cfg.maxRetries) :
    composedAgrees s gap (buildWord reads st ch) (checkWord reads st ch) (blockWord reads st ch) failed last := by
  simp only [List.mem_cons, forall_eq_or_imp] at hcap
  obtain ⟨h, v, hbuild, hblock, hat, hv, hcmd, hcfg, hreq⟩ := forms_begin (reads := reads) (st := st) (ch := ch) hs hch
    (hostRounds s.cfg gap (checkWord reads st ch) failed ++ hostRound s.cfg gap (checkWord reads st ch) last)
    (blockRounds s.cfg gap failed ++ attemptScript s.cfg gap last ++ [.sequencer])
  rw [← hreq] at hlast hfailed
  rw [← hcfg] at hidle hcap hn hlast hat
  obtain ⟨t, u, hrounds, hat, hu, hucfg, hureq, hucmd, hdrive⟩ := reaches_rounds (n := 1)
    (blockRest := attemptScript v.cfg gap last ++ [.sequencer]) failed hv (reading_of_blockWord hcmd) hidle hcap.2
    hfailed (by omega) hat
  rw [← hureq] at hlast
  rw [← hucfg, ← List.append_nil (hostRound _ _ _ last)] at hat
  rw [← hucfg] at hidle hcap hlast
  obtain ⟨t', hround, hend, hok, hmask⟩ := reaches_hostRound hu.length hu.noOver hidle hcap.1 hat
  obtain ⟨u', hblast, hes', hb', hview', hok', hstatus, hmask'⟩ := drive_lastAttempt
    (n := 1 + failed.length) (es := []) hu (hucmd.trans hcmd) hidle hcap.1 (hlast.imp_right (by omega))
  have hrest : drive (blockRounds s.cfg gap failed ++ attemptScript s.cfg gap last ++ [.sequencer]) (v.attempt 1) =
      .next u' := by
    rw [← hcfg, List.append_assoc, hdrive, ← hucfg]
    exact hblast
  obtain ⟨k, hrun⟩ := run_of_reaches ((Reaches.step (.refl _) hbuild).trans (hrounds.trans hround))
  exact ⟨k, t', u', hrun, hblock.trans hrest, hend.script, hes', hend.ready.2.1, hb',
    hend.view.trace.trans hview'.trace.symm, hend.view.now.trans hview'.now.symm, hend.view.req.trans hview'.req.symm,
    hend.view.rsp.trans hview'.rsp.symm, hmask.trans hmask'.symm, hok.trans hok'.symm, hstatus⟩

/-- Settles O49: the transaction that writes. -/
theorem hostComposedWriteAgrees : Obligations.HostComposedWriteAgrees := by
  intro s st ch gap failed last hs hlow hhigh hidle hn hcap
  dsimp only
  intro hfailed hlast
  exact composed_agrees (reads := false) hs (fun _ => ⟨hlow, hhigh⟩) hidle hn hcap hfailed hlast

/-- Settles O60: the transaction that reads. -/
theorem hostComposedReadAgrees : Obligations.HostComposedReadAgrees := by
  intro s st ch gap failed last hs hidle hn hcap
  dsimp only
  intro hfailed hlast
  exact composed_agrees (reads := true) (ch := ch) (st := st) hs nofun hidle hn hcap hfailed hlast

end Sys2Proof.Machine
end

section
/-! # The count of a transaction

What a transaction leaves in the trace can be told from its attempt number and its phase (`AttemptCounts`), and how it
ends from whether its request can be built (`TransactionCourse`). Every move of the line side keeps both. -/

namespace Sys2Proof.Machine

variable {s v v' : State} {p q : LinePhase} {evs : List (WireEvent × Nat)} {granted : Prop}

/-! ## What an attempt has left so far -/

/-- The flushes of an attempt that is in this phase. -/
def LinePhase.flushes : LinePhase → Nat
  | .txFlush => 0
  | _ => 1

/-- Its `DE_UP` events. -/
def LinePhase.ups : LinePhase → Nat
  | .txFlush => 0
  | .txAssert => 0
  | _ => 1

/-- Its `DE_DOWN` events, when it has taken no error exit. -/
def LinePhase.downs : LinePhase → Nat
  | .rxWaitFirst => 1
  | .rxCollect => 1
  | _ => 0

/-- The bytes of its eight that it has handed over at most. -/
def LinePhase.handed : LinePhase → Nat
  | .txFlush => 0
  | .txAssert => 0
  | .txSettle => 0
  | .txWrite i => min i 8
  | _ => 8

/-- The bytes in the transmitter. -/
def State.inFlight (s : State) : Nat := (s.txsr.toList ++ s.txq).length

/-- The transaction begun in `s` has made all its attempts but one, and of that one what the phase `p` says;
between any two of them the retry delay has passed (R191 to R197). -/
structure AttemptCounts (s : State) (p : LinePhase) (v : State) : Prop where
  begun : 1 ≤ v.att
  flushes : countEvents WireEvent.isFlush v.trace + 1 = countEvents WireEvent.isFlush s.trace + v.att + p.flushes
  ups : countEvents WireEvent.isDeUp v.trace + 1 = countEvents WireEvent.isDeUp s.trace + v.att + p.ups
  downs : countEvents WireEvent.isDeDown v.trace + 1 = countEvents WireEvent.isDeDown s.trace + v.att + p.downs
  bytes : countEvents WireEvent.isTx v.trace + v.inFlight + 8 ≤
    countEvents WireEvent.isTx s.trace + 8 * v.att + p.handed
  time : s.now + v.att * v.cfg.retryDelay ≤ v.now + v.cfg.retryDelay

/-- Within an attempt `v` has led to `v'`, and the trace has gained `evs`. -/
structure Advances (evs : List (WireEvent × Nat)) (v v' : State) : Prop where
  att : v'.att = v.att
  cfg : v'.cfg = v.cfg
  now : v.now ≤ v'.now
  trace : v'.trace = v.trace ++ evs

theorem Advances.silent (hatt : v'.att = v.att) (hcfg : v'.cfg = v.cfg) (hnow : v.now ≤ v'.now)
    (htrace : v'.trace = v.trace) : Advances [] v v' :=
  ⟨hatt, hcfg, hnow, htrace.trans (List.append_nil _).symm⟩

/-- The events an attempt gains from the phase `p` to the phase `q` are those that tell the two apart. -/
theorem AttemptCounts.advance (h : AttemptCounts s p v) (ha : Advances evs v v')
    (hflush : countEvents WireEvent.isFlush evs + p.flushes = q.flushes)
    (hup : countEvents WireEvent.isDeUp evs + p.ups = q.ups)
    (hdown : countEvents WireEvent.isDeDown evs + p.downs = q.downs)
    (hbytes : v'.inFlight + (countEvents WireEvent.isTx evs + p.handed) ≤ v.inFlight + q.handed) :
    AttemptCounts s q v' := by
  obtain ⟨hbegun, hflushes, hups, hdowns, hb, htime⟩ := h
  obtain ⟨hatt, hcfg, hnow, htrace⟩ := ha
  constructor <;> simp only [hatt, hcfg, htrace, countEvents_append] <;> omega

/-- Nothing that is counted has changed. -/
theorem AttemptCounts.same (h : AttemptCounts s p v) (hatt : v'.att = v.att) (hcfg : v'.cfg = v.cfg)
    (hnow : v.now ≤ v'.now) (htrace : v'.trace = v.trace) (hb : v'.inFlight = v.inFlight) : AttemptCounts s p v' :=
  h.advance (.silent hatt hcfg hnow htrace) (Nat.zero_add _) (Nat.zero_add _) (Nat.zero_add _)
    (by rw [hb, countEvents_nil, Nat.zero_add])

/-! ## The course of a transaction -/

/-- The request of the transaction can be built (R192, R200). -/
def State.Granted (s : State) : Prop := reading s = true ∨ channelOk s.cfg (chanField s.cmd) = true

/-- Where the transaction begun in `s` has come to, and how it has ended: `granted` says whether its request can be
built, and every attempt that is over has the count of `RX_COLLECT` (R199, R204, R205). -/
inductive TransactionCourse (granted : Prop) (s v : State) : Prop
  | building (hp : v.phase = .building) (ht : v.trace = s.trace) (hn : s.now ≤ v.now)
  | attempting {r} (hp : v.phase = .attempting r) (hg : granted) (h : AttemptCounts s r v)
  | retrying {d} (hp : v.phase = .retrying) (hg : granted) (h : AttemptCounts s .rxCollect v)
      (hd : v.timers.retry = some d) (hdelay : s.now + v.att * v.cfg.retryDelay ≤ d)
  | succeeded (hp : v.phase = .succeeded) (hg : granted) (h : AttemptCounts s .rxCollect v)
  | exhausted (hp : v.phase = .exhausted) (hg : granted) (h : AttemptCounts s .rxCollect v)
      (hlast : v.att = v.cfg.maxRetries)
  | ended (hp : v.phase = .idle) (hg : granted) (h : AttemptCounts s .rxCollect v)
      (hatt : v.att ≤ v.cfg.maxRetries) (hst : v.status = .ok ∨ (v.status = .timeout ∧ v.att = v.cfg.maxRetries))
  | refused (hp : v.phase = .idle) (hg : ¬ granted) (ht : v.trace = s.trace) (hn : s.now ≤ v.now)
      (hst : v.status = .invalidParameter)

/-! ## How an attempt ends -/

/-- A failed attempt is to be retried, or it is the last (R193, R196). -/
theorem attemptFails_cases (v : State) :
    ∃ q timers, attemptFails v = { v with phase := q, timers := timers } ∧
      ((q = .retrying ∧ timers.retry = some (v.now + v.cfg.retryDelay)) ∨
       (q = .exhausted ∧ v.cfg.maxRetries ≤ v.att)) := by
  unfold attemptFails
  split
  · exact ⟨_, _, rfl, .inl ⟨rfl, rfl⟩⟩
  · exact ⟨_, _, rfl, .inr ⟨rfl, Nat.le_of_not_lt ‹_›⟩⟩

/-- An attempt that is over is accepted or has failed; the checker has written nothing but the accumulator and `RES8`
(R194, R195). -/
theorem concludeAttempt_cases (c : Status) (v : State) :
    ∃ crc res8 q timers, concludeAttempt c v = { v with crc := crc, res8 := res8, phase := q, timers := timers } ∧
      (q = .succeeded ∨ (q = .retrying ∧ timers.retry = some (v.now + v.cfg.retryDelay)) ∨
       (q = .exhausted ∧ v.cfg.maxRetries ≤ v.att)) := by
  unfold concludeAttempt
  dsimp only
  split_ifs
  · exact ⟨_, _, _, _, rfl, .inl rfl⟩
  · obtain ⟨q, timers, h, hq⟩ := attemptFails_cases (noteCrc (attemptCheck v) v)
    exact ⟨_, _, q, timers, h, .inr hq⟩
  · obtain ⟨q, timers, h, hq⟩ := attemptFails_cases v
    exact ⟨_, _, q, timers, h, .inr hq⟩

theorem course_concludeAttempt (c : Status) (hatt : v.att ≤ v.cfg.maxRetries) (hg : granted)
    (h : AttemptCounts s .rxCollect v) : TransactionCourse granted s (concludeAttempt c v) := by
  obtain ⟨crc, res8, q, timers, heq, hq⟩ := concludeAttempt_cases c v
  have hcounts : AttemptCounts s .rxCollect (concludeAttempt c v) := by
    rw [heq]
    exact h.same rfl rfl le_rfl rfl rfl
  rw [heq] at hcounts ⊢
  obtain rfl | ⟨rfl, hretry⟩ | ⟨rfl, hlast⟩ := hq
  · exact .succeeded rfl hg hcounts
  · exact .retrying rfl hg hcounts hretry h.time
  · exact .exhausted rfl hg hcounts (Nat.le_antisymm hatt hlast)

theorem course_endTransport (c : Status) (hp : v.phase = .attempting p) (hatt : v.att ≤ v.cfg.maxRetries)
    (hg : granted) (h : AttemptCounts s .rxCollect v) : TransactionCourse granted s (endTransport c v) := by
  simp only [endTransport, hp]
  exact course_concludeAttempt c hatt hg h

/-- While it drives the line an attempt has flushed and raised the line once (R123, R124). -/
theorem counts_of_drives (hp : p.drives = true) : p.flushes = 1 ∧ p.ups = 1 ∧ p.downs = 0 ∧ p.handed ≤ 8 := by
  cases p with
  | txFlush | txAssert | rxWaitFirst | rxCollect => cases hp
  | txWrite i => exact ⟨rfl, rfl, rfl, Nat.min_le_right i 8⟩
  | txSettle | txWaitTc | txHold | txRelease => exact ⟨rfl, rfl, rfl, by decide⟩

/-- The error exit is one `DE_DOWN` and the end of the attempt (R133, R194). -/
theorem course_abortTransmit (hp : v.phase = .attempting p) (hdrives : p.drives = true) (hde : v.de = true)
    (hatt : v.att ≤ v.cfg.maxRetries) (hg : granted) (h : AttemptCounts s p v) :
    TransactionCourse granted s (abortTransmit v) := by
  have hx : exchanging (lowerDe { v with txq := [], txsr := none, timers := {} }) = true := by simp [exchanging, hp]
  rw [abortTransmit, failTransmit, if_pos hx]
  refine course_endTransport (p := p) _ (by simp [hp]) (by simpa using hatt) hg ?_
  obtain ⟨hflush, hup, hdown, hhanded⟩ := counts_of_drives hdrives
  refine h.advance (evs := [(.deDown, v.now)]) ⟨by simp, by simp, by simp, by simp [hde]⟩ ?_ ?_ ?_ ?_
  · rw [hflush]; rfl
  · rw [hup]; rfl
  · rw [hdown]; rfl
  · rw [show LinePhase.rxCollect.handed = 8 from rfl]
    simp [State.inFlight, WireEvent.isTx]
    omega

/-! ## The steps of an attempt -/

/-- The attempt goes on in another phase. -/
theorem course_enter {u : State} (hp : u.phase = .attempting p) (hg : granted) (h : AttemptCounts s q u) :
    TransactionCourse granted s (enter q u) :=
  .attempting (r := q) (by simp [hp]) hg (h.same rfl rfl le_rfl rfl rfl)

/-- A byte received is not counted (R204). -/
theorem course_takeByte (b : Byte) (rest : List Byte) (hp : v.phase = .attempting p) (hatt : v.att ≤ v.cfg.maxRetries)
    (hg : granted) (h : AttemptCounts s .rxCollect v) : TransactionCourse granted s (takeByte b rest v) := by
  have hstored : AttemptCounts s .rxCollect (storeReceived b rest v) :=
    h.advance (evs := [(.rx b, v.now)]) ⟨rfl, rfl, le_rfl, rfl⟩ rfl rfl rfl le_rfl
  unfold takeByte
  dsimp only
  split
  · exact course_endTransport (p := p) _ hp hatt hg hstored
  · exact course_enter (p := p) (u := { storeReceived b rest v with timers := _ }) hp hg
      (hstored.same rfl rfl le_rfl rfl rfl)

/-- Every step of an attempt's exchange keeps its count. -/
theorem course_lineStep (hv : v.Inv) (hp : v.phase = .attempting p) (hg : granted) (h : AttemptCounts s p v) :
    TransactionCourse granted s (lineStep p v) := by
  have holds := hv.holds (p := p) (by rw [hp]; rfl)
  obtain ⟨⟨-, hatt⟩, hlen, -⟩ := hv.attempting (by rw [hp]; rfl)
  have stay : TransactionCourse granted s v := .attempting hp hg h
  have abort : p.drives = true → TransactionCourse granted s (abortTransmit v) := fun hd =>
    course_abortTransmit hp hd (holds.de_eq.trans hd) hatt hg h
  have silent : ∀ timers, Advances [] v { v with timers := timers } := fun _ => .silent rfl rfl le_rfl rfl
  cases p with
  | txFlush =>
    exact course_enter (u := uartFlush v) hp hg
      (h.advance (evs := [_]) ⟨rfl, rfl, le_rfl, rfl⟩ rfl rfl rfl le_rfl)
  | txAssert =>
    exact course_enter (u := raiseDe { v with timers := _ }) hp hg
      (h.advance (evs := [_]) ⟨rfl, rfl, le_rfl, rfl⟩ rfl rfl rfl le_rfl)
  | txSettle =>
    simp only [lineStep]
    split
    · exact course_enter (u := { v with timers := _ }) hp hg (h.advance (silent _) rfl rfl rfl le_rfl)
    · exact stay
  | txWrite i =>
    simp only [lineStep, writePhase]
    split_ifs with hi
    · refine course_enter (u := uartWrite _ v) hp hg
        (h.advance (.silent rfl rfl le_rfl rfl) rfl rfl rfl ?_)
      simp [State.inFlight, LinePhase.handed]
      omega
    · exact abort rfl
    · exact stay
    · exact course_enter (u := { v with timers := _ }) hp hg (h.advance (silent _) rfl rfl rfl
        (Nat.add_le_add_left (Nat.zero_add _ ▸ Nat.min_le_right i 8) _))
  | txWaitTc =>
    simp only [lineStep, waitTcPhase]
    split_ifs
    · exact course_enter (u := { v with timers := _ }) hp hg (h.advance (silent _) rfl rfl rfl le_rfl)
    · exact abort rfl
    · exact stay
  | txHold =>
    simp only [lineStep]
    split
    · exact course_enter hp hg (h.advance (silent v.timers) rfl rfl rfl le_rfl)
    · exact stay
  | txRelease =>
    have hx : exchanging v = true := by simp [exchanging, hp]
    simp only [lineStep, releasePhase, if_pos hx, startReceive]
    refine course_enter (p := .txRelease) (u := { lowerDe v with timers := {} }) (by simp [hp]) hg
      (h.advance (evs := [(.deDown, v.now)]) ⟨by simp, by simp, by simp, ?_⟩ rfl rfl rfl ?_)
    · simp [holds.de_eq, LinePhase.drives]
    · simp [State.inFlight, WireEvent.isTx, LinePhase.handed]
  | rxWaitFirst =>
    have whole : AttemptCounts s .rxCollect v := h.advance (silent v.timers) rfl rfl rfl le_rfl
    simp only [lineStep, waitFirstPhase]
    split
    · exact .attempting (r := .rxWaitFirst) hp hg (h.same rfl rfl le_rfl rfl rfl)
    · split
      · exact course_takeByte _ _ hp hatt hg whole
      · split
        · exact course_endTransport _ hp hatt hg whole
        · exact stay
  | rxCollect =>
    simp only [lineStep, collectPhase]
    split
    · exact course_takeByte _ _ hp hatt hg h
    · split
      · exact course_endTransport _ hp hatt hg h
      · exact stay

/-! ## The sequencer -/

/-- The next attempt begins with nothing of its own counted, once the retry delay has passed (R196). -/
theorem AttemptCounts.next (h : AttemptCounts s .rxCollect v) (hdelay : s.now + v.att * v.cfg.retryDelay ≤ v.now) :
    AttemptCounts s .txFlush (v.attempt (v.att + 1)) := by
  obtain ⟨hbegun, hflushes, hups, hdowns, hb, htime⟩ := h
  simp only [LinePhase.flushes, LinePhase.ups, LinePhase.downs, LinePhase.handed] at hflushes hups hdowns hb
  constructor <;> simp only [State.attempt, LinePhase.flushes, LinePhase.ups, LinePhase.downs, LinePhase.handed,
    State.inFlight, Nat.add_mul] at * <;> omega

/-- The first attempt begins with nothing counted. -/
theorem attemptCounts_first {body : List Byte} (ht : v.trace = s.trace) (hn : s.now ≤ v.now) (hq : v.Quiet) :
    AttemptCounts s .txFlush ((buildRequest body v).attempt 1) := by
  obtain ⟨-, hqueue, hshift⟩ := hq
  constructor <;> simp [State.attempt, State.inFlight, ht, hn, hqueue, hshift, LinePhase.flushes, LinePhase.ups,
    LinePhase.downs, LinePhase.handed]

/-- A transaction in progress, outside its exchanges and with its request built, can begin an attempt. -/
theorem State.Inv.betweenAttempts (hv : v.Inv) (hp : v.phase.inTransaction = true) (hd : v.phase.drives = false) :
    v.BetweenAttempts := by
  obtain ⟨-, hlen, hover⟩ := hv.attempting hp
  have hne : v.phase ≠ .idle := fun h => by rw [h] at hp; cases hp
  obtain ⟨hb, -, hc, -⟩ := hv.underway hne
  exact ⟨hb, hv.quiet hd, hlen, hover, hc⟩

/-- `BUILDING` begins the first attempt, or refuses the channel (R191, R192, R200). -/
theorem course_buildingPhase (hv : v.Inv) (hp : v.phase = .building) (hg : v.Granted ↔ granted)
    (ht : v.trace = s.trace) (hn : s.now ≤ v.now) : TransactionCourse granted s (buildingPhase v) := by
  have hq : v.Quiet := hv.quiet (by rw [hp]; rfl)
  obtain ⟨hb, -, hc, -⟩ := hv.underway (by simp [hp])
  have begins : ∀ body : List Byte, body.length = 6 → v.Granted →
      TransactionCourse granted s (beginAttempt 1 (buildRequest body v)) := fun body hbody hgr => by
    rw [beginAttempt_eq (v := buildRequest body v) ⟨hb, hq, by simp [hbody], rfl, hc⟩]
    exact .attempting rfl (hg.mp hgr) (attemptCounts_first ht hn hq)
  unfold buildingPhase
  split_ifs with hread hch
  · exact begins _ rfl (.inl hread)
  · exact begins _ rfl (.inr hch)
  · rw [finish_of_released hq.1]
    exact .refused rfl (fun h => (hg.mpr h).elim hread hch) ht hn rfl

/-- The end of a transaction is not counted. -/
theorem course_finish {c : Status} (hq : v.Quiet) (hg : granted) (h : AttemptCounts s .rxCollect v)
    (hatt : v.att ≤ v.cfg.maxRetries) (hc : c = .ok ∨ (c = .timeout ∧ v.att = v.cfg.maxRetries)) :
    TransactionCourse granted s (finish c v) := by
  rw [finish_of_released hq.1]
  exact .ended rfl hg (h.same rfl rfl le_rfl rfl rfl) hatt hc

theorem course_sequencerStep (hv : v.Inv) (hb : v.busy = true) (hgr : v.Granted ↔ granted)
    (h : TransactionCourse granted s v) : TransactionCourse granted s (sequencerStep v) := by
  have hidle : v.phase ≠ .idle := hv.busy_iff.mp hb
  cases h with
  | building hp ht hn =>
    rw [sequencerStep, hp]
    exact course_buildingPhase hv hp hgr ht hn
  | attempting hp hg h =>
    rw [sequencerStep, hp]
    exact course_lineStep hv hp hg h
  | retrying hp hg h hd hdelay =>
    rw [sequencerStep, hp]
    dsimp only
    split
    · obtain ⟨d', hd', hle⟩ := expired_iff.mp ‹_›
      cases hd.symm.trans hd'
      rw [beginAttempt_eq (hv.betweenAttempts (by rw [hp]; rfl) (by rw [hp]; rfl))]
      exact .attempting rfl hg (h.next (hdelay.trans hle))
    · exact .retrying hp hg h hd hdelay
  | succeeded hp hg h =>
    rw [sequencerStep, hp]
    exact course_finish (hv.quiet (by rw [hp]; rfl)) hg h (hv.attempt (by rw [hp]; rfl)).2 (.inl rfl)
  | exhausted hp hg h hlast =>
    have hq : v.Quiet := hv.quiet (by rw [hp]; rfl)
    rw [sequencerStep, hp]
    dsimp only [exhaustedPhase]
    split
    · exact course_finish (v := scrambleRes8 v) hq hg (h.same rfl rfl le_rfl rfl rfl)
        hlast.le (.inr ⟨rfl, hlast⟩)
    · exact course_finish hq hg h hlast.le (.inr ⟨rfl, hlast⟩)
  | ended hp | refused hp => exact absurd hp hidle

/-! ## The other moves -/

/-- A move in which the sequencer takes no part leaves the attempt number alone (R32). -/
theorem perform_cases_att {e : Event} (he : e.lineSide = true) (ht : perform e v = .next v') :
    (∃ n, v' = sequencerStep { v with now := v.now + n }) ∨
    (linePhase v.phase = some .txWaitTc ∧ v' = abortTransmit v) ∨ (Passive e v v' ∧ v'.att = v.att) := by
  have passive : v'.att = v.att → _ := fun hatt =>
    (perform_cases he ht).imp And.right (Or.imp And.right fun h => And.intro h hatt)
  cases e with
  | hostRequest | hostResponse | reset => cases he
  | hostCommand | uartRoom => exact passive (by cases ht; rfl)
  | line | uartLoad | uartShift => exact passive (by cases ht; simp)
  | clock n =>
    cases ht
    obtain ⟨-, h⟩ | ⟨-, h⟩ := advanceClock_cases n v
    · exact passive (by rw [h])
    · exact .inl ⟨n, h⟩
  | sequencer => cases ht; exact .inl ⟨0, rfl⟩
  | timerFirst =>
    cases ht
    obtain ⟨hc, h⟩ | ⟨-, h⟩ := timerFirstStep_cases v
    · exact .inr (.inl ⟨((budgetCoincides_iff v).mp hc).1, h⟩)
    · exact .inl ⟨0, h⟩

/-- A byte that leaves the transmitter is counted as sent and no longer as in flight. -/
theorem AttemptCounts.passive {e : Event} (h : AttemptCounts s p v) (hm : Passive e v v') (hatt : v'.att = v.att) :
    AttemptCounts s p v' := by
  have silent : v'.trace = v.trace → v'.inFlight = v.inFlight → AttemptCounts s p v' := fun ht hb =>
    h.same hatt hm.cfg hm.now ht hb
  obtain rfl | rfl | ⟨ht, hq, hr, -⟩ := hm.wire
  · exact silent (uartLoad_trace v) (congrArg List.length (uartLoad_bytes v))
  · cases hb : v.txsr with
    | none => exact silent (by rw [uartShift_of_empty hb]) (by rw [uartShift_of_empty hb])
    | some b =>
      refine h.advance (evs := [(.tx b, v.now)]) ⟨hatt, hm.cfg, hm.now, by rw [uartShift_of_byte hb]; rfl⟩
        (Nat.zero_add _) (Nat.zero_add _) (Nat.zero_add _) ?_
      rw [uartShift_of_byte hb]
      simp [State.inFlight, hb, WireEvent.isTx]
      omega
  · exact silent ht (by rw [State.inFlight, State.inFlight, hq, hr])

/-- The course does not change while the phase stays, what is counted is kept, and the timers and the trace are as they
were where the line is not driven. -/
theorem TransactionCourse.stays (h : TransactionCourse granted s v)
    (hidle : v.phase = .idle → v'.status = v.status) (hp : v'.phase = v.phase) (hatt : v'.att = v.att)
    (hcfg : v'.cfg = v.cfg) (hn : v.now ≤ v'.now)
    (hcounts : ∀ {p}, AttemptCounts s p v → AttemptCounts s p v')
    (hpause : v.phase.drives = false → v'.trace = v.trace ∧ v'.timers = v.timers) :
    TransactionCourse granted s v' := by
  cases h with
  | building hb ht hs => exact .building (hp.trans hb) ((hpause (by rw [hb]; rfl)).1.trans ht) (hs.trans hn)
  | attempting hb hg h => exact .attempting (hp.trans hb) hg (hcounts h)
  | retrying hb hg h hd hdelay =>
    obtain ⟨-, htimers⟩ := hpause (by rw [hb]; rfl)
    exact .retrying (hp.trans hb) hg (hcounts h) (by rw [htimers, hd]) (by rw [hatt, hcfg]; exact hdelay)
  | succeeded hb hg h => exact .succeeded (hp.trans hb) hg (hcounts h)
  | exhausted hb hg h hlast => exact .exhausted (hp.trans hb) hg (hcounts h) (by rw [hatt, hcfg, hlast])
  | ended hb hg h hle hst =>
    exact .ended (hp.trans hb) hg (hcounts h) (by rw [hatt, hcfg]; exact hle) (by rw [hidle hb, hatt, hcfg]; exact hst)
  | refused hb hg ht hs hst =>
    exact .refused (hp.trans hb) hg ((hpause (by rw [hb]; rfl)).1.trans ht) (hs.trans hn) ((hidle hb).trans hst)

theorem course_perform {e : Event} (he : e.lineSide = true) (hv : v.Inv) (hb : v.busy = true)
    (hgr : v.Granted ↔ granted) (h : TransactionCourse granted s v) (ht : perform e v = .next v') :
    TransactionCourse granted s v' := by
  have hidle : v.phase = .idle → v'.status = v.status := fun h => absurd h (hv.busy_iff.mp hb)
  obtain ⟨n, rfl⟩ | ⟨hl, rfl⟩ | ⟨hm, hatt⟩ := perform_cases_att he ht
  · refine course_sequencerStep (v := { v with now := v.now + n }) (hv.later n) hb hgr ?_
    exact h.stays (fun _ => rfl) rfl rfl rfl (Nat.le_add_right _ _)
      (fun h => h.same rfl rfl (Nat.le_add_right _ _) rfl rfl) fun _ => ⟨rfl, rfl⟩
  · cases h with
    | attempting hp hg h =>
      rw [hp] at hl
      cases hl
      exact course_abortTransmit hp rfl (hv.holds (p := .txWaitTc) (by rw [hp]; rfl)).de_eq
        (hv.attempt (by rw [hp]; rfl)).2 hg h
    | building hp | retrying hp | succeeded hp | exhausted hp | ended hp | refused hp => rw [hp] at hl; cases hl
  · refine h.stays hidle hm.phase hatt hm.cfg hm.now (fun h => h.passive hm hatt) fun hd => ?_
    obtain ⟨htrace, -, -, htimers⟩ := hm.still (hv.quiet hd).2
    exact ⟨htrace, htimers⟩

/-! ## The statements -/

theorem granted_of_same (hcmd : v'.cmd = v.cmd) (hcfg : v'.cfg = v.cfg) : v'.Granted ↔ v.Granted := by
  rw [State.Granted, State.Granted, reading, reading, hcmd, hcfg]

/-- A transaction that has ended was refused, with nothing done, or has ended `OK` or `Timeout` after its attempts, on
every line (R199, R204). -/
theorem transaction_ends {i : Instr} {w : CommandWord} {t : State} (hi : encode i = .command w)
    (hbegin : ∀ v, Begins i v { v with phase := .building }) (hs : s.ready)
    (hes : s.script.all Event.lineSide = true)
    (ht : runCommand w (fun v => { v with phase := .building }) s = .next t) (hb : t.busy = false) :
    t.cfg = s.cfg ∧ s.trace <+: t.trace ∧
    ((¬ (accept w s).Granted ∧ t.status = .invalidParameter ∧ t.trace = s.trace ∧ s.now ≤ t.now) ∨
     ((accept w s).Granted ∧ AttemptCounts s .rxCollect t ∧ t.att ≤ s.cfg.maxRetries ∧
      (t.status = .ok ∨ (t.status = .timeout ∧ t.att = s.cfg.maxRetries)))) := by
  obtain ⟨-, -, hinv, -, hcfg, hgrows, hcourse⟩ := runCommand_course hi hbegin hs hes ht
    (fun _ v => v.cfg = s.cfg ∧ s.trace <+: v.trace ∧ TransactionCourse (accept w s).Granted s v)
    (fun _ v es h => ⟨h.1, h.2.1, h.2.2.stays (fun _ => rfl) rfl rfl rfl le_rfl
      (fun h => h.same rfl rfl le_rfl rfl rfl) fun _ => ⟨rfl, rfl⟩⟩)
    ⟨rfl, List.prefix_rfl, .building rfl rfl le_rfl⟩
    (fun _ e v v' he hv hr _ h hv' => by
      obtain ⟨hcfg, hgrows, hcourse⟩ := h
      have hcmd : v.cmd = w := Fetched.command.inj (hr.1.symm.trans hi)
      exact ⟨(perform_leaves hv').1.trans hcfg, hgrows.trans (trace_perform hv'),
        course_perform he hv hr.2.1 (granted_of_same hcmd hcfg) hcourse hv'⟩)
  have hidle := hinv.idle_of_not_busy hb
  refine ⟨hcfg, hgrows, ?_⟩
  rw [← hcfg]
  cases hcourse with
  | building hp | attempting hp | retrying hp | succeeded hp | exhausted hp => cases hp.symm.trans hidle
  | ended _ hg h hatt hst => exact .inr ⟨hg, h, hatt, hst⟩
  | refused _ hg ht hn hst => exact .inl ⟨hg, hst, ht, hn⟩

/-- Only a `WRITE_COIL` of a channel out of range cannot have its request built (R192, R200). -/
theorem granted_writeCoil (s : State) (st : Bool) (ch : Word) :
    (accept (commandWord 0x8#4 st ch) s).Granted ↔ 1 ≤ ch.toNat ∧ ch.toNat ≤ s.cfg.relayCount := by
  simp [State.Granted, reading, channelOk_iff]

theorem granted_readCoils (s : State) (st : Bool) (ch : Word) : (accept (commandWord 0x9#4 st ch) s).Granted :=
  .inl (by simp [reading])

/-- Settles O46: the two ways in which a transaction ends. -/
theorem transactionStatuses : Obligations.TransactionStatuses := by
  intro s t st ch hs hes hb
  refine ⟨fun ht => ?_, fun ht => ?_⟩
  · obtain ⟨-, -, hend⟩ := transaction_ends (i := .writeCoil st ch) rfl (fun _ => .writeCoil) hs hes ht hb
    rw [granted_writeCoil] at hend
    obtain ⟨hno, hst, -⟩ | ⟨hyes, -, -, hst | ⟨hst, -⟩⟩ := hend
    · exact ⟨.inr (.inl hst), iff_of_true hst (by omega)⟩
    · exact ⟨.inl hst, iff_of_false (by simp [hst]) (by omega)⟩
    · exact ⟨.inr (.inr hst), iff_of_false (by simp [hst]) (by omega)⟩
  · obtain ⟨-, -, ⟨hno, -⟩ | ⟨-, -, -, hst⟩⟩ :=
      transaction_ends (i := .readCoils st ch) rfl (fun _ => .readCoils) hs hes ht hb
    · exact absurd (granted_readCoils s st ch) hno
    · exact hst.imp_right And.left

/-- Settles O47: a transaction that was refused has done nothing, and any other has the counts of its attempts. -/
theorem transactionCounts : Obligations.TransactionCounts := by
  intro s t i st ch hs hes hi ht hb
  obtain ⟨w, hw, hbegin, hrun⟩ : ∃ w, encode i = .command w ∧
      (∀ v, Begins i v { v with phase := .building }) ∧
      exec i s = runCommand w (fun v => { v with phase := .building }) s := by
    obtain rfl | rfl := hi
    · exact ⟨_, rfl, fun _ => .writeCoil, rfl⟩
    · exact ⟨_, rfl, fun _ => .readCoils, rfl⟩
  rw [hrun] at ht
  obtain ⟨hcfg, ⟨added, hadded⟩, ⟨-, hst, htrace, hnow⟩ | ⟨-, hcounts, hatt, hst⟩⟩ :=
    transaction_ends hw hbegin hs hes ht hb
  · exact ⟨[], 0, by rw [htrace, List.append_nil], rfl, rfl, rfl, le_rfl, by simpa using hnow, by simp [hst],
      by simp [hst], fun _ => ⟨rfl, rfl⟩⟩
  · obtain ⟨hbegun, hflushes, hups, hdowns, hbytes, htime⟩ := hcounts
    simp only [← hadded, countEvents_append, LinePhase.flushes, LinePhase.ups, LinePhase.downs, LinePhase.handed]
      at hflushes hups hdowns hbytes
    refine ⟨added, t.att, hadded.symm, by omega, by omega, by omega, by omega, ?_,
      fun _ => ⟨rfl, hbegun, hatt⟩, ?_, ?_⟩
    · obtain ⟨k, hk⟩ := Nat.exists_eq_add_of_le' hbegun
      rw [hcfg, hk, Nat.add_mul] at htime
      rw [hk, Nat.add_sub_cancel]
      omega
    · exact fun h => hst.elim (fun hok => by cases h.symm.trans hok) And.right
    · exact fun h => hst.elim (fun hok => by cases h.symm.trans hok) fun htimeout => by cases h.symm.trans htimeout.1

end Sys2Proof.Machine
end

section
/-! # The way to the end of an operation

How far an operation in progress is from its end is a pair: the attempts it has left, and the steps left of the one it is
in (`State.attemptsLeft`, `State.stepsLeft`). A step of the sequencer ends the operation, waits for a timer, or brings the
operation nearer to its end without writing `STATUS` (`Nears`). So an operation whose timers are always let run out comes
to its end, and no operation inside a transaction reports its status. -/

namespace Sys2Proof.Machine

variable {s t u : State} {p q : LinePhase} {e : Event}

/-! ## The distance to the end -/

/-- A bound on the steps a transport operation still takes from the phase `p` on, in an `EXCHANGE`: the phases to come,
the bytes not yet handed over, and the room left in `RSP`. -/
def State.stepsFrom (s : State) : LinePhase → Nat
  | .txFlush => s.cfg.rxCap + s.req.length + 10
  | .txAssert => s.cfg.rxCap + s.req.length + 9
  | .txSettle => s.cfg.rxCap + s.req.length + 8
  | .txWrite i => s.cfg.rxCap + (s.req.length - i) + 7
  | .txWaitTc => s.cfg.rxCap + 6
  | .txHold => s.cfg.rxCap + 5
  | .txRelease => s.cfg.rxCap + 4
  | .rxWaitFirst => s.cfg.rxCap + (if s.timers.first = none then 1 else 0) + 2
  | .rxCollect => s.cfg.rxCap - s.rsp.length + 1

/-- The same from the phase in progress on; none outside the transport phases. -/
def State.stepsLeft (s : State) : Nat := (linePhase s.phase).elim 0 s.stepsFrom

/-- The attempts still to be begun: all of them in `BUILDING`. Outside a transaction no step changes the number (R193). -/
def State.attemptsLeft (s : State) : Nat :=
  if s.phase = .building then s.cfg.maxRetries else s.cfg.maxRetries - s.att

/-- `u` is nearer to the end of the operation in progress than `s` is. -/
def State.Nearer (s u : State) : Prop :=
  u.attemptsLeft < s.attemptsLeft ∨ (u.attemptsLeft = s.attemptsLeft ∧ u.stepsLeft < s.stepsLeft)

theorem stepsLeft_of_line (hp : linePhase s.phase = some p) : s.stepsLeft = s.stepsFrom p := by
  rw [State.stepsLeft, hp]
  rfl

theorem stepsFrom_pos (s : State) (p : LinePhase) : 0 < s.stepsFrom p := by
  cases p <;> simp [State.stepsFrom]

theorem attemptsLeft_of_built (hp : s.phase ≠ .building) : s.attemptsLeft = s.cfg.maxRetries - s.att := if_neg hp

theorem not_building_of_line (hp : linePhase s.phase = some p) : s.phase ≠ .building := fun h => by
  rw [h] at hp
  cases hp

/-! ## The timers that have run out -/

/-- The deadlines of the six timers (R38). -/
def Timers.deadlines (t : Timers) : List (Option Nat) := [t.settle, t.txBudget, t.hold, t.first, t.idle, t.retry]

/-- Every timer that runs has reached its deadline. -/
def State.Due (s : State) : Prop := ∀ d ∈ s.timers.deadlines, d ≠ none → expired d s.now = true

/-- In time every timer reaches its deadline (R44, R229). -/
theorem exists_due (s : State) : ∃ n, State.Due { s with now := s.now + n } := by
  refine ⟨(s.timers.deadlines.map (·.getD 0)).sum, fun d hd hruns => ?_⟩
  obtain ⟨k, rfl⟩ := Option.ne_none_iff_exists'.mp hruns
  have hk : k ≤ (s.timers.deadlines.map (·.getD 0)).sum := List.le_sum_of_mem (List.mem_map_of_mem hd)
  exact expired_iff.mpr ⟨k, rfl, hk.trans (Nat.le_add_left _ _)⟩

/-! ## What a step of the sequencer does to the operation -/

/-- `u` is in the phase and the attempt that `s` is in, with the same `STATUS`. -/
structure SameOperation (s u : State) : Prop where
  busy : u.busy = s.busy
  phase : u.phase = s.phase
  status : u.status = s.status
  att : u.att = s.att
  cfg : u.cfg = s.cfg

theorem SameOperation.trans (h : SameOperation s t) (h' : SameOperation t u) : SameOperation s u :=
  ⟨h'.busy.trans h.busy, h'.phase.trans h.phase, h'.status.trans h.status, h'.att.trans h.att, h'.cfg.trans h.cfg⟩

/-- How a step of the sequencer leaves the operation: ended, waiting for a timer, or nearer to its end with no status
written. -/
inductive Nears (s : State) : State → Prop
  | ended {c : Status} {u : State} : Nears s (finish c u)
  | waits (h : ¬ s.Due) : Nears s s
  | nearer {u : State} (hb : u.busy = s.busy) (hst : u.status = s.status) (h : s.Nearer u) : Nears s u

/-- The step waits for a timer that runs and has not expired. -/
theorem nears_wait {d : Option Nat} (hd : d ∈ s.timers.deadlines) (hruns : d ≠ none) (h : ¬ expired d s.now = true) :
    Nears s s := .waits fun hdue => h (hdue d hd hruns)

/-- A transport operation goes on in a phase that has fewer steps before it. -/
theorem nears_enter (hp : linePhase s.phase = some p) (hu : SameOperation s u) (hq : u.stepsFrom q < s.stepsFrom p) :
    Nears s (enter q u) := by
  have hq' : linePhase (enter q u).phase = some q := linePhase_enter q u
  refine .nearer hu.busy hu.status (.inr ⟨?_, ?_⟩)
  · rw [attemptsLeft_of_built (not_building_of_line hq'), attemptsLeft_of_built (not_building_of_line hp), enter_cfg,
      enter_att, hu.att, hu.cfg]
  · rw [stepsLeft_of_line hq', stepsLeft_of_line hp]
    cases q <;> exact hq

/-- A transport operation ends: the command ends with it, or the attempt does, which reports nothing (R222, R225). -/
theorem nears_endTransport (c : Status) (hp : linePhase s.phase = some p) (hu : SameOperation s u) :
    Nears s (endTransport c u) := by
  obtain ⟨-, -, h⟩ | ⟨-, h⟩ := endTransport_cases c u <;> rw [h]
  · obtain ⟨crc, res8, q, timers, heq, hq⟩ := concludeAttempt_cases c u
    obtain ⟨hbuilt, hline⟩ : q ≠ .building ∧ linePhase q = none := by
      obtain rfl | ⟨rfl, -⟩ | ⟨rfl, -⟩ := hq <;> exact ⟨Phase.noConfusion, rfl⟩
    rw [heq]
    refine .nearer hu.busy hu.status (.inr ⟨?_, ?_⟩)
    · rw [attemptsLeft_of_built hbuilt, attemptsLeft_of_built (not_building_of_line hp)]
      simp only [hu.att, hu.cfg]
    · rw [stepsLeft_of_line hp, State.stepsLeft]
      simp only [hline]
      exact stepsFrom_pos s p
  · exact .ended

theorem nears_abortTransmit (hp : linePhase s.phase = some p) : Nears s (abortTransmit s) := by
  have hlower : SameOperation s (lowerDe { s with txq := [], txsr := none, timers := {} }) := by
    constructor <;> simp
  unfold abortTransmit failTransmit
  refine nears_endTransport _ hp ?_
  split
  · exact hlower.trans ⟨rfl, rfl, rfl, rfl, rfl⟩
  · exact hlower

/-- A byte taken leaves less room in `RSP`, or ends the receive (R141, R142). -/
theorem nears_takeByte (b : Byte) (rest : List Byte) (hp : linePhase s.phase = some p)
    (hroom : s.cfg.rxCap - s.rsp.length + 1 ≤ s.stepsFrom p) (hcap : s.rsp.length < s.cfg.rxCap) :
    Nears s (takeByte b rest s) := by
  unfold takeByte
  dsimp only
  split
  · exact nears_endTransport _ hp ⟨rfl, rfl, rfl, rfl, rfl⟩
  · refine nears_enter (u := { storeReceived b rest s with timers := _ }) hp ⟨rfl, rfl, rfl, rfl, rfl⟩ ?_
    change s.cfg.rxCap - (s.rsp ++ [b]).length + 1 < s.stepsFrom p
    rw [List.length_append, List.length_singleton]
    omega

theorem nears_waitFirst (h : s.Inv) (hp : linePhase s.phase = some .rxWaitFirst) : Nears s (waitFirstPhase s) := by
  obtain ⟨-, hempty⟩ := h.holds hp
  obtain ⟨-, -, hc, -⟩ := h.underway fun hi => by rw [hi] at hp; cases hp
  obtain ⟨-, -, -, -, -, -, hcap, -⟩ := Config.bounds_of_ok hc
  unfold waitFirstPhase
  split
  · rename_i hfirst
    refine .nearer rfl rfl (.inr ⟨rfl, ?_⟩)
    rw [stepsLeft_of_line hp, stepsLeft_of_line (s := writeRsp [] { s with timers := _ }) hp]
    simp [State.stepsFrom, hfirst]
  · rename_i hfirst
    split
    · have hrsp : s.rsp = [] := hempty (by simp [hfirst])
      refine nears_takeByte _ _ hp ?_ (by rw [hrsp, List.length_nil]; omega)
      simp [State.stepsFrom, hfirst, hrsp]
    · split
      · exact nears_endTransport _ hp ⟨rfl, rfl, rfl, rfl, rfl⟩
      · exact nears_wait (d := s.timers.first) (by simp [Timers.deadlines]) (by simp [hfirst]) (by rwa [hfirst])

/-- A step of a transport phase. -/
theorem nears_lineStep (h : s.Inv) (hp : linePhase s.phase = some p) : Nears s (lineStep p s) := by
  have hh := h.holds hp
  have here : SameOperation s s := ⟨rfl, rfl, rfl, rfl, rfl⟩
  cases p with
  | txFlush => exact nears_enter (u := uartFlush s) hp ⟨rfl, rfl, rfl, rfl, rfl⟩ (by simp [State.stepsFrom])
  | txAssert =>
    exact nears_enter (u := raiseDe { s with timers := _ }) hp ⟨rfl, rfl, rfl, rfl, rfl⟩ (by simp [State.stepsFrom])
  | txSettle =>
    obtain ⟨-, -, hsettle⟩ := hh
    simp only [lineStep]
    split
    · exact nears_enter (u := { s with timers := _ }) hp ⟨rfl, rfl, rfl, rfl, rfl⟩ (by simp [State.stepsFrom])
    · exact nears_wait (by simp [Timers.deadlines]) hsettle ‹_›
  | txWrite i =>
    obtain ⟨-, -, hbudget, -⟩ := hh
    simp only [lineStep, writePhase]
    split_ifs
    · exact nears_enter (u := uartWrite _ s) hp ⟨rfl, rfl, rfl, rfl, rfl⟩
        (by simp only [State.stepsFrom, uartWrite_cfg, uartWrite_req]; omega)
    · exact nears_abortTransmit hp
    · exact nears_wait (by simp [Timers.deadlines]) hbudget ‹_›
    · exact nears_enter (u := { s with timers := _ }) hp ⟨rfl, rfl, rfl, rfl, rfl⟩ (by simp [State.stepsFrom])
  | txWaitTc =>
    obtain ⟨-, -, hbudget, -⟩ := hh
    simp only [lineStep, waitTcPhase]
    split_ifs
    · exact nears_enter (u := { s with timers := _ }) hp ⟨rfl, rfl, rfl, rfl, rfl⟩ (by simp [State.stepsFrom])
    · exact nears_abortTransmit hp
    · exact nears_wait (by simp [Timers.deadlines]) hbudget ‹_›
  | txHold =>
    obtain ⟨-, -, hhold, -⟩ := hh
    simp only [lineStep]
    split
    · exact nears_enter hp here (by simp [State.stepsFrom])
    · exact nears_wait (by simp [Timers.deadlines]) hhold ‹_›
  | txRelease =>
    have hlower : SameOperation s (lowerDe s) := by constructor <;> simp
    simp only [lineStep, releasePhase]
    split
    · exact nears_enter (u := { lowerDe s with timers := {} }) hp (hlower.trans ⟨rfl, rfl, rfl, rfl, rfl⟩)
        (by simp [State.stepsFrom])
    · exact nears_endTransport _ hp hlower
  | rxWaitFirst => exact nears_waitFirst h hp
  | rxCollect =>
    obtain ⟨-, hidle, -, hcap⟩ := hh
    simp only [lineStep, collectPhase]
    split
    · exact nears_takeByte _ _ hp le_rfl hcap
    · split
      · exact nears_endTransport _ hp here
      · exact nears_wait (by simp [Timers.deadlines]) hidle ‹_›

/-- The first attempt begins, or the channel is refused (R191, R192, R200). -/
theorem nears_buildingPhase (h : s.Inv) (hp : s.phase = .building) : Nears s (buildingPhase s) := by
  obtain ⟨hb, -, hc, -⟩ := h.underway (by simp [hp])
  obtain ⟨-, hmax, -⟩ := Config.bounds_of_ok hc
  have begins : ∀ body : List Byte, body.length = 6 → Nears s (beginAttempt 1 (buildRequest body s)) := fun body hbody => by
    rw [beginAttempt_eq (v := buildRequest body s) ⟨hb, h.quiet (by rw [hp]; rfl), by simp [hbody], rfl, hc⟩]
    refine .nearer rfl rfl (.inl ?_)
    rw [attemptsLeft_of_built (by simp [State.attempt]), State.attemptsLeft, if_pos hp]
    exact Nat.sub_lt hmax Nat.one_pos
  unfold buildingPhase
  split_ifs
  · exact begins _ rfl
  · exact begins _ rfl
  · exact .ended

/-- The next attempt begins when the retry delay has passed (R196). -/
theorem nears_nextAttempt (h : s.Inv) (hp : s.phase = .retrying) : Nears s (beginAttempt (s.att + 1) s) := by
  have hleft := h.retry_left hp
  rw [beginAttempt_eq (h.betweenAttempts (by rw [hp]; rfl) (by rw [hp]; rfl))]
  refine .nearer rfl rfl (.inl ?_)
  rw [attemptsLeft_of_built (by simp [State.attempt]), attemptsLeft_of_built (by simp [hp])]
  simp only [State.attempt]
  omega

theorem nears_sequencerStep (h : s.Inv) (hb : s.busy = true) : Nears s (sequencerStep s) := by
  cases hp : s.phase with
  | idle => exact absurd hp (h.busy_iff.mp hb)
  | compute => exact absurd hp h.no_compute
  | transport p | attempting p =>
    rw [sequencerStep, hp]
    exact nears_lineStep h (by rw [hp]; rfl)
  | building =>
    rw [sequencerStep, hp]
    exact nears_buildingPhase h hp
  | retrying =>
    rw [sequencerStep, hp]
    dsimp only
    split
    · exact nears_nextAttempt h hp
    · exact nears_wait (by simp [Timers.deadlines]) (h.retry_runs hp) ‹_›
  | succeeded | exhausted =>
    rw [sequencerStep, hp]
    exact .ended

/-! ## The clock and the sequencer end every operation -/

/-- Some moves of the clock and the sequencer alone end the operation in progress. -/
def State.CanEnd (s : State) : Prop :=
  ∃ es t, (∀ e ∈ es, e = .sequencer ∨ ∃ n, e = .clock n) ∧ drive es s = .next t ∧ t.busy = false ∧ t.done = true

theorem canEnd_of_ended (hb : s.busy = false) (hd : s.done = true) : s.CanEnd :=
  ⟨[], _, by simp, drive_nil s, hb, hd⟩

/-- What can be ended after a move of the clock or the sequencer can be ended before it. -/
theorem canEnd_of_move (hb : s.busy = true) (he : e = .sequencer ∨ ∃ n, e = .clock n) (ht : perform e s = .next t)
    (h : t.CanEnd) : s.CanEnd := by
  obtain ⟨es, u, hes, hu, hend⟩ := h
  exact ⟨e :: es, u, List.forall_mem_cons.mpr ⟨he, hes⟩, (drive_cons hb ht es).trans hu, hend⟩

/-- The sequencer's step after a time: the clock's own move when it passes the deadline of the wait in progress, else the
sequencer's move after it (R229). -/
theorem canEnd_of_step (hb : s.busy = true) (n : Nat) (h : (sequencerStep { s with now := s.now + n }).CanEnd) :
    s.CanEnd := by
  have later : (advanceClock n s).CanEnd := by
    obtain ⟨-, ht⟩ | ⟨-, ht⟩ := advanceClock_cases n s <;> rw [ht]
    · exact canEnd_of_move (s := { s with now := s.now + n }) hb (.inl rfl) rfl h
    · exact h
  exact canEnd_of_move hb (.inr ⟨n, rfl⟩) rfl later

/-- With every timer run out a step of the sequencer ends the operation or brings it nearer to its end. -/
theorem Nears.canEnd (h : Nears s t) (hb : s.busy = true) (hdue : s.Due)
    (hnearer : t.busy = true → s.Nearer t → t.CanEnd) : t.CanEnd := by
  cases h with
  | ended => exact canEnd_of_ended (finish_busy _ _) (finish_done _ _)
  | waits h => exact absurd hdue h
  | nearer hb' _ h => exact hnearer (hb'.trans hb) h

/-- By induction on the distance to the end: let every timer run out, then take a step of the sequencer. -/
theorem canEnd_of_busy (s : State) (h : s.Inv) (hb : s.busy = true) : s.CanEnd := by
  obtain ⟨n, hdue⟩ := exists_due s
  have hn : State.Inv { s with now := s.now + n } := h.later n
  exact canEnd_of_step hb n ((nears_sequencerStep hn hb).canEnd hb hdue fun hb' hnearer =>
    have : s.Nearer (sequencerStep { s with now := s.now + n }) := hnearer
    canEnd_of_busy _ (inv_sequencerStep hn) hb')
termination_by (s.attemptsLeft, s.stepsLeft)
decreasing_by exact Prod.lex_def.mpr this

/-- Settles O58: the induction on the distance to the end. -/
theorem everyOperationCanEnd : Obligations.EveryOperationCanEnd := canEnd_of_busy

/-! ## No operation inside a transaction reports its status -/

/-- `STATUS` is as it was, unless the operation has ended. -/
def Absorbs (s t : State) : Prop := t.phase = .idle ∨ t.status = s.status

theorem Nears.absorbs (h : Nears s t) : Absorbs s t := by
  cases h with
  | ended => exact .inl (finish_phase _ _)
  | waits => exact .inr rfl
  | nearer _ hst => exact .inr hst

/-- Only the end of the operation writes `STATUS` (R222, R225). -/
theorem absorbs_perform (he : e.lineSide = true) (h : s.Inv) (hb : s.busy = true) (ht : perform e s = .next t) :
    Absorbs s t := by
  cases e with
  | hostRequest | hostResponse | reset => cases he
  | hostCommand | uartRoom => cases ht; exact .inr rfl
  | line | uartLoad | uartShift => cases ht; exact .inr (by simp)
  | clock n =>
    cases ht
    obtain ⟨-, ht⟩ | ⟨-, ht⟩ := advanceClock_cases n s <;> rw [ht]
    · exact .inr rfl
    · exact (nears_sequencerStep (s := { s with now := s.now + n }) (h.later n) hb).absorbs
  | sequencer => cases ht; exact (nears_sequencerStep h hb).absorbs
  | timerFirst =>
    cases ht
    obtain ⟨hc, ht⟩ | ⟨-, ht⟩ := timerFirstStep_cases s <;> rw [ht]
    · exact (nears_abortTransmit ((budgetCoincides_iff s).mp hc).1).absorbs
    · exact (nears_sequencerStep h hb).absorbs

/-- The moves that are not of the line side are refused while a command runs, or abandon it (R245, R264). -/
theorem lineSide_of_perform (hb : s.busy = true) (ht : perform e s = .next t) (hp : t.phase ≠ .idle) :
    e.lineSide = true := by
  cases e with
  | hostRequest bytes => cases (loadRequest_busy hb bytes).symm.trans ht
  | hostResponse bytes => cases (loadResponse_busy hb bytes).symm.trans ht
  | reset u => cases ht; exact absurd rfl hp
  | _ => rfl

/-- A move that leaves the transaction in progress. -/
theorem perform_inTransaction (h : s.Inv) (hs : s.phase.inTransaction = true) (ht : perform e s = .next t)
    (hp : t.phase.inTransaction = true) :
    t.status = s.status ∧ t.req = s.req ∧ t.cmd = s.cmd ∧ t.done = s.done := by
  have active : ∀ {q : Phase}, q.inTransaction = true → q ≠ .idle ∧ q ≠ .building := by
    rintro q hq
    constructor <;> rintro rfl <;> cases hq
  have hb : s.busy = true := h.busy_iff.mpr (active hs).1
  have ht' : t.Inv := inv_perform e h ht
  have hb' : t.busy = true := ht'.busy_iff.mpr (active hp).1
  have he : e.lineSide = true := lineSide_of_perform hb ht (active hp).1
  have hkept : t.kept = s.kept := by
    simpa only [bound_of_built (active hs).2, bound_of_built (active hp).2] using perform_bound he ht
  obtain ⟨hreq, hcmd, -⟩ := kept_inj hkept
  exact ⟨(absorbs_perform he h hb ht).resolve_left (active hp).1, hreq, hcmd,
    (ht'.not_done hb').trans (h.not_done hb).symm⟩

/-- Settles O48: a block in a transaction is busy, so a step is one move. -/
theorem attemptsAreAbsorbed : Obligations.AttemptsAreAbsorbed := by
  intro s t h hs hstep hp
  unfold step at hstep
  split at hstep
  case h_1 =>
    cases hstep
    exact ⟨rfl, rfl, rfl, rfl⟩
  case h_2 e es _ =>
    have h' : State.Inv { s with script := es } := h.surroundings s.rxq s.now s.txRoom es s.tmoIn s.dataIn
    obtain ht | ⟨-, -, -, -, hidle, -⟩ := fetchAndRun_cases hstep
    · exact perform_inTransaction (s := { s with script := es }) h' hs ht hp
    · rw [h'.idle_of_not_busy hidle] at hs
      cases hs

/-! ## Every command is answered -/

/-- Settles O57: a ready block accepts the command, and no move of the line side stops its run. -/
theorem commandsNeverStopTheMachine : Obligations.CommandsNeverStopTheMachine := by
  intro s i st ch hs hes hi
  obtain ⟨w, hw⟩ := encode_of_command hi
  obtain ⟨body, hexec, -⟩ := exec_begins hw
  obtain ⟨t, ht⟩ := drive_lineSide s.script hes (body (accept w s))
  exact ⟨t, (hexec s).trans ((runCommand_ready hs w body).trans ht)⟩

end Sys2Proof.Machine
end

section
/-! # The reset (70_reset_and_hazards.md)

A reset is one move, whatever was in progress: the state after it is that of R46 with the unspecified items as drawn.
The refusals the host gets afterwards follow from `DONE = 0` and from operands not yet written, not from what was drawn. -/

namespace Sys2Proof.Machine

/-! ## What the host cannot read -/

/-- While `DONE = 0` the result registers are unreadable, whatever they hold (R23, R24, R25). -/
theorem results_unreadable {s : State} (h : s.done = false) :
    readStatus s = none ∧ readRes16 s = none ∧ readRes8 s = none := by
  simp [readStatus, readRes16, readRes8, h]

/-- `REQ` is unreadable at every offset until it is written (R46, R244). -/
theorem readReq_of_unwritten {s : State} (h : s.reqWritten = false) (i : Nat) : readReq s i = none := by
  simp [readReq, h]

/-- `RSP` is unreadable at every offset until it is written (R46, R244). -/
theorem readRsp_of_unwritten {s : State} (h : s.rspWritten = false) (i : Nat) : readRsp s i = none := by
  simp [readRsp, h]

/-! ## The move -/

/-- A reset is asserted in any state, busy or not, and takes one step (R245). -/
theorem step_reset {s : State} {u : ResetDraw} {es : List Event} (h : s.script = .reset u :: es) :
    step s = .next (resetBlock u { s with script := es }) := by
  simp only [step, h, fetchAndRun, perform]

/-- The record gains `DE_DOWN` exactly where the reset takes the line down (log entry 15). -/
theorem resetBlock_trace (u : ResetDraw) (s : State) :
    (resetBlock u s).trace = s.trace ++ (if s.de then [(.deDown, s.now)] else []) := lowerDe_trace s

/-- Settles O50: the step is the reset move; it clears `DONE` and the marks of the written operands, so every reader
refuses, and the trace is that of a lowered line. -/
theorem resetAbandonsTheCommand : Obligations.ResetAbandonsTheCommand := by
  intro s u es hscript
  let t := resetBlock u { s with script := es }
  obtain ⟨hstatus, hres16, hres8⟩ := results_unreadable (s := t) rfl
  have hoperands (i : Nat) : readReq t i = none ∧ readRsp t i = none :=
    ⟨readReq_of_unwritten rfl i, readRsp_of_unwritten rfl i⟩
  exact ⟨t, step_reset hscript, rfl, rfl, rfl, rfl, rfl, rfl, rfl, rfl, rfl, rfl, rfl, resetBlock_trace u _,
    hstatus, hres16, hres8, hoperands⟩

end Sys2Proof.Machine
end
